-- ==== Sys2Proof/Word.lean ====
section
/-! DEFINITION. The word and byte types of the block and the plainest functions on bit vectors (rules R9, R10). -/

namespace Sys2Proof

/-- A byte: asset bytes, panel bytes, the transport's error code (R9). -/
abbrev Byte := BitVec 8

/-- A register of the host window and a command word: 32 bits (R9, R43, R66). -/
abbrev Word := BitVec 32

/-- The indices of the 1 bits of `v`, ascending. -/
def setBits {n : Nat} (v : BitVec n) : List Nat := (List.range n).filter (fun i => v.getLsbD i)

/-- R10: `popcount(v)` is the number of 1 bits of `v`. -/
def popcount {n : Nat} (v : BitVec n) : Nat := (setBits v).length

/-- `v` with bit `i` set to 1 (R11, `x[i] <- 1`). -/
def setBit {n : Nat} (v : BitVec n) (i : Nat) : BitVec n := v ||| BitVec.twoPow n i

/-- `v` with bit `i` set to 0 (R11, `x[i] <- 0`). -/
def clearBit {n : Nat} (v : BitVec n) (i : Nat) : BitVec n := v &&& ~~~ (BitVec.twoPow n i)

end Sys2Proof
end

