-- ==== Sys2Proof/Config.lean ====
section
/-! DEFINITION. The constants the source fixes (R6) and the configuration of the block (R7): the parameters this
hardware fixes, and the three that stay OPEN as constants without a body. -/

namespace Sys2Proof

/-! ### R6: constants the source fixes -/

/-- R6 GRID_COLS. -/
abbrev gridCols : Nat := 6
/-- R6 GRID_ROWS. -/
abbrev gridRows : Nat := 7
/-- R6 GRID_CELLS: the Grid's Cells. -/
abbrev gridCells : Nat := 42
/-- R6 RING: the Segment's cells, indices mod 6. -/
abbrev ringCells : Nat := 6
/-- R6 SLIDE_PERIOD. -/
abbrev slidePeriod : Nat := 8
/-- R6 CELL_PX: the side in pixels of every Draw Object the builder emits. -/
abbrev cellPx : Nat := 24
/-- R6 WIDTH: output columns in pixels. -/
abbrev width : Nat := 144
/-- R6 HEIGHT: output rows in pixels. -/
abbrev height : Nat := 168
/-- R6 BPR: data bytes of a row. -/
abbrev bytesPerRow : Nat := 18
/-- R6 RECORD_LEN: bytes sent for a row. -/
abbrev recordLen : Nat := 20
/-- R6 FRAME_LEN: bytes of a frame stream. -/
abbrev frameLen : Nat := 3360
/-- R7 OAM_CAP (D11): entries of the OAM. -/
abbrev oamCap : Nat := 48
/-- R7 TICK_HZ (D41): the reference tick rate. It is recorded only: no rule depends on it (R148). -/
abbrev tickHz : Nat := 30

/-- R7: the parameters of one block. A step never changes them. -/
structure Config where
  /-- BASE: byte address of the register window on the host bus (OPEN, D2). -/
  base : Nat
  /-- CMD_BYTE: the byte sent before each row (OPEN, D14). -/
  cmdByte : Byte
  /-- HAS_DISP_LINE: whether the display-enable line exists (OPEN, D19). -/
  hasDispLine : Bool
  /-- TICK_BITS (D12): the width of TICKCNT, 3..=32. -/
  tickBits : Nat
  /-- ROW_ADDR_BASE (D15): added to the row index before the bit reversal. -/
  rowAddrBase : Nat
  /-- ASSETS (D13): the asset ROM, a finite list of byte sequences (R56). -/
  assets : List (List Byte)
  /-- UPDATE_PREV_ON_ERROR (D17): whether PREV stays valid after a failed FRAME stream. -/
  updatePrevOnError : Bool
  /-- BTN_PREV_RESET (D22): the edge detector's remembered level after reset. -/
  btnPrevReset : Bool
  deriving DecidableEq, Repr

/-- BASE is OPEN (R7, D2): no body, so that nothing can be proved of its value. -/
opaque Config.openBase : Nat

/-- CMD_BYTE is OPEN (R7, D14): no body, so that nothing can be proved of its value. -/
opaque Config.openCmdByte : Byte

/-- HAS_DISP_LINE is OPEN (R7, D19): no body, so that nothing can be proved of its value. -/
opaque Config.openHasDispLine : Bool

/-- R56: asset 0, the solid 24×24 square: 72 bytes, each 0xFF. -/
def solidSquare : List Byte := List.replicate 72 0xFF#8

/-- R7: this hardware's configuration. -/
def Config.hardware : Config where
  base := Config.openBase
  cmdByte := Config.openCmdByte
  hasDispLine := Config.openHasDispLine
  tickBits := 32
  rowAddrBase := 0
  assets := [solidSquare]
  updatePrevOnError := true
  btnPrevReset := false

end Sys2Proof
end

