-- ==== Sys2Proof/Syntax.lean ====
section
/-! DEFINITION. The SFC command set, edition 1 (R2, R71): one constructor per row of spec/opcode_table.json. -/

namespace Sys2Proof

/-- R71: the eight commands. Only PERIOD has an operand (R68, R69). -/
inductive Instr where
  /-- R114: no operation. -/
  | nop
  /-- R76: the Button Press event. -/
  | press
  /-- R77: the Tick event. -/
  | tick
  /-- R90: construct a fresh Simulation. -/
  | simInit
  /-- R91: build the Frame Descriptor into the OAM. -/
  | build
  /-- R107: send one frame stream from the OAM. -/
  | compose
  /-- R115: build, compare with PREV, send the frame only on change. -/
  | frame
  /-- R117: one driver period; `btn` is the sampled button level, command word bit 8 (R67). -/
  | period (btn : Bool)
  deriving DecidableEq, Repr

end Sys2Proof
end

