-- ==== Sys2Proof/Machine/State.lean ====
section
/-! DEFINITION. The state of the block as plain data (10_state.md), the events of its environment, its outputs, the
reasons a step can stop, and the state after reset (R41). -/

namespace Sys2Proof.Machine

/-! ### Simulation (R16 to R23) -/

/-- R16 to R22: the Simulation state. -/
structure Sim where
  /-- GRID (R16): 42 Cells, bit `row*6 + col`; 1 is Filled. -/
  grid : BitVec 42
  /-- SEG (R17): the 6 ring cells of the Segment. -/
  seg : BitVec 6
  /-- LEN (R18): the Segment's length. -/
  len : BitVec 2
  /-- Y (R19): the climbing height, 0..=6. -/
  y : BitVec 3
  /-- RISING (R20): the pending climb request. -/
  rising : Bool
  /-- FINISHED (R21): the terminal flag. -/
  finished : Bool
  /-- TICKCNT (R22): the tick counter; TICK_BITS of its bits are used. -/
  tickcnt : BitVec 32
  deriving DecidableEq, Repr

/-- R23, R138: INIT, the freshly constructed Simulation. -/
def Sim.init : Sim where
  grid := 0#42
  seg := 0b000111#6
  len := 3#2
  y := 0#3
  rising := false
  finished := false
  tickcnt := 0#32

/-! ### Frame Descriptors (R25 to R27) -/

/-- R25: a Draw Object. Bits 2:0 of `w` are hardwired 0: the operation that writes a width drops them. -/
structure DrawObject where
  /-- ASSET: index into the asset ROM. -/
  asset : BitVec 8
  /-- W: width in pixels. -/
  w : BitVec 8
  /-- H: height in pixels. -/
  h : BitVec 8
  /-- X: output pixel column of the top-left pixel. -/
  x : BitVec 16
  /-- Y: output pixel row of the top-left pixel. -/
  y : BitVec 16
  deriving DecidableEq, Repr

/-- R26: a Draw Object with every field 0. -/
def DrawObject.zero : DrawObject := { asset := 0#8, w := 0#8, h := 0#8, x := 0#16, y := 0#16 }

/-- R26, R27: a count (0..=48) and 48 entries, of which the first `count` are the Frame Descriptor. -/
structure FrameDesc where
  /-- OAM_COUNT or PREV_COUNT. -/
  count : BitVec 6
  /-- The stored entries. -/
  entries : Vector DrawObject 48
  deriving DecidableEq, Repr

/-- R26, R41: count 0 and every field of every entry 0. -/
def FrameDesc.zero : FrameDesc := { count := 0#6, entries := Vector.replicate 48 DrawObject.zero }

/-! ### Stream engine (R30) -/

/-- R30: the stream engine and the chip-select level it drives. -/
structure Stream where
  /-- BUSY: a frame stream is in progress. -/
  busy : Bool
  /-- POS_ROW: the row being sent. -/
  posRow : BitVec 8
  /-- POS_BYTE: the byte of the row record being sent. -/
  posByte : BitVec 5
  /-- FROM_FRAME: FRAME or PERIOD started the stream. -/
  fromFrame : Bool
  /-- CS: the chip-select level (R40). -/
  cs : Bool
  deriving DecidableEq, Repr

/-- R30, R109: no stream in progress. -/
def Stream.idle : Stream := { busy := false, posRow := 0#8, posByte := 0#5, fromFrame := false, cs := false }

/-! ### Error record (R33) -/

/-- R33, R118: the causes ERRINFO.CAUSE can hold; 4..=15 are never written. -/
inductive Cause where
  /-- 0: no error since reset. -/
  | none
  /-- 1: the transport answered `err` (R122). -/
  | transport
  /-- 2: a write refused because a stream runs (R120). -/
  | busyWrite
  /-- 3: a reserved opcode (R121). -/
  | reservedOpcode
  deriving DecidableEq, Repr

/-- R33: the fields of ERRINFO. -/
structure ErrInfo where
  /-- CAUSE. -/
  cause : Cause
  /-- ROW: POS_ROW of the failing byte. -/
  row : BitVec 8
  /-- BYTE: POS_BYTE of the failing byte. -/
  byte : BitVec 5
  /-- TCODE: the transport's error code. -/
  tcode : BitVec 8
  deriving DecidableEq, Repr

/-- R33, R41: every field 0. -/
def ErrInfo.zero : ErrInfo := { cause := .none, row := 0#8, byte := 0#5, tcode := 0#8 }

/-! ### The environment: what the host, the transport and the RESET input do, and what they are given -/

/-- R110: the transport's answer to one byte. -/
inductive Answer where
  /-- The byte was accepted. -/
  | ok
  /-- The byte failed, with the transport's opaque 8-bit code. -/
  | err (code : BitVec 8)
  deriving DecidableEq, Repr

/-- R42: where a host access goes: an offset in the register window, or an address on the host's bus. -/
inductive BusAddr where
  /-- The offset `addr - BASE` of an address in the window. -/
  | offset (off : BitVec 12)
  /-- A byte address of the bus, inside the window or not. -/
  | address (addr : Nat)
  deriving DecidableEq, Repr

/-- R14: one step of one agent outside the block's own logic. A list of events is one interleaving of their steps. -/
inductive Event where
  /-- Host: a read of `size` bytes. -/
  | read (at_ : BusAddr) (size : Nat)
  /-- Host: a write of `size` bytes; `value` is the word written when `size` is 4. -/
  | write (at_ : BusAddr) (size : Nat) (value : Word)
  /-- Transport: the answer to the byte the stream engine offers (R109, R110). -/
  | answer (a : Answer)
  /-- Transport: an answer that comes after a reset to a byte offered before it (R139). -/
  | lateAnswer (a : Answer)
  /-- Reset: the RESET input takes this level (R137). -/
  | resetLine (level : Bool)
  deriving DecidableEq, Repr

/-- R47, R119: how a host access completes on the host bus. -/
inductive BusResponse where
  /-- A performed read, with the register's value. -/
  | data (v : Word)
  /-- A performed write. -/
  | done
  /-- An access that is not performed. -/
  | busError
  deriving DecidableEq, Repr

/-- R59, R110: one transfer on the panel byte channel: the byte offered and its answer. -/
structure PanelTransfer where
  /-- The byte offered to the transport. -/
  byte : Byte
  /-- What the transport answered. -/
  answer : Answer
  deriving DecidableEq, Repr

/-! ### Why a step stops -/

/-- R123: the structural defects a model can meet in a state the invariants of R24 exclude. -/
inductive Defect where
  /-- R81: LEN decremented at 0. -/
  | lenUnderflow
  /-- R89: a Grid index past cell 41. -/
  | gridIndex
  /-- R82, R93: a climbing height outside 0..=6. -/
  | heightRange
  deriving DecidableEq, Repr

/-- The faults of the model. -/
inductive Fault where
  /-- R123: raised by TICK, BUILD, FRAME and PERIOD in a state that the invariants of R24 exclude. The hardware has no
  such state and no behaviour for it, so stopping is safe. -/
  | structuralDefect (info : Defect)
  deriving DecidableEq, Repr

/-- The refusals of the model. -/
inductive Refusal where
  /-- Raised by `exec` for an instruction that has no meaning yet. Safe: the model stops where the hardware goes on.
  No arm answers it. -/
  | notModelled (mnemonic : String)
  /-- R8: raised by `step` for a configuration that fails a check of R8: "A model refuses a configuration that fails
  any of these checks." Safe: there is no such block. -/
  | badConfig
  deriving DecidableEq, Repr

/-! ### State -/

/-- The state of the block (10_state.md), its configuration (R7), and the model's own record of its environment. -/
structure State where
  /-- R7: the configuration; no step changes it. -/
  cfg : Config
  /-- R16 to R22: the Simulation. -/
  sim : Sim
  /-- R26: OAM and OAM_COUNT. -/
  oam : FrameDesc
  /-- R27: PREV and PREV_COUNT, hidden from the host. -/
  prev : FrameDesc
  /-- R27: PREV_VALID. -/
  prevValid : Bool
  /-- R28: BTN_PREV. -/
  btnPrev : Bool
  /-- R29: DRAWN. -/
  drawn : Bool
  /-- R30: BUSY, POS_ROW, POS_BYTE, FROM_FRAME and CS. -/
  stream : Stream
  /-- R32: STATUS.TERR. -/
  terr : Bool
  /-- R32: STATUS.CERR. -/
  cerr : Bool
  /-- R33: ERRINFO. -/
  errinfo : ErrInfo
  /-- R34: CTRL.DISP_EN. -/
  dispEn : Bool
  /-- R137: the level of the RESET input. -/
  resetLine : Bool
  /-- The model's own field: what the outside world does next, the first event first. -/
  inbox : List Event
  /-- The model's own field: the responses given on the host bus, newest first. -/
  busLog : List BusResponse
  /-- The model's own field: the transfers on the panel byte channel, newest first. -/
  panelLog : List PanelTransfer
  deriving DecidableEq, Repr

/-- R41, R137: the reset table, for a block of configuration `c` whose RESET input has gone back to 0. PREV and
PREV_COUNT are unspecified after reset and hold zeros here (DESIGN CHOICE, notes/assumptions/1.md). -/
def State.resetOf (c : Config) : State where
  cfg := c
  sim := Sim.init
  oam := FrameDesc.zero
  prev := FrameDesc.zero
  prevValid := false
  btnPrev := c.btnPrevReset
  drawn := false
  stream := Stream.idle
  terr := false
  cerr := false
  errinfo := ErrInfo.zero
  dispEn := false
  resetLine := false
  inbox := []
  busLog := []
  panelLog := []

/-- The machine right after reset (R41), with nothing yet asked of it. -/
def State.reset : State := State.resetOf Config.hardware

end Sys2Proof.Machine
end

