-- ==== Sys2Proof/Machine/Ops.lean ====
section
/-! DEFINITION. The shared operations: the field updates, sequencing of outcomes, recording an error (the block's only
exception, R118 to R124) and clearing its sticky bits (R127), the BUSY check (R49, R120), starting and ending a stream
(R108, R109, R122), INIT (R23) and reset (R137). -/

namespace Sys2Proof.Machine

/-- The outcomes of this machine. -/
abbrev Result := Host.Outcome State Fault Refusal

/-- `f` on the next state of `o`; a fault or a refusal stays. -/
def andThen (o : Result) (f : State → Result) : Result :=
  match o with
  | .next s => f s
  | .fault r => .fault r
  | .refused r => .refused r

/-! ### Updates of State, one field each -/

/-- Replace the Simulation. -/
def State.setSim (s : State) (m : Sim) : State := { s with sim := m }
/-- Replace the OAM and its count. -/
def State.setOam (s : State) (d : FrameDesc) : State := { s with oam := d }
/-- Replace PREV and its count. -/
def State.setPrev (s : State) (d : FrameDesc) : State := { s with prev := d }
/-- Replace PREV_VALID. -/
def State.setPrevValid (s : State) (b : Bool) : State := { s with prevValid := b }
/-- Replace BTN_PREV. -/
def State.setBtnPrev (s : State) (b : Bool) : State := { s with btnPrev := b }
/-- Replace DRAWN. -/
def State.setDrawn (s : State) (b : Bool) : State := { s with drawn := b }
/-- Replace the stream engine's state. -/
def State.setStream (s : State) (t : Stream) : State := { s with stream := t }
/-- Replace STATUS.TERR. -/
def State.setTerr (s : State) (b : Bool) : State := { s with terr := b }
/-- Replace STATUS.CERR. -/
def State.setCerr (s : State) (b : Bool) : State := { s with cerr := b }
/-- Replace ERRINFO. -/
def State.setErrinfo (s : State) (e : ErrInfo) : State := { s with errinfo := e }
/-- Replace CTRL.DISP_EN. -/
def State.setDispEn (s : State) (b : Bool) : State := { s with dispEn := b }
/-- Replace the level of the RESET input. -/
def State.setResetLine (s : State) (b : Bool) : State := { s with resetLine := b }
/-- Replace the events to come. -/
def State.setInbox (s : State) (es : List Event) : State := { s with inbox := es }
/-- Record a response on the host bus. -/
def State.logBus (s : State) (r : BusResponse) : State := { s with busLog := r :: s.busLog }
/-- Record a transfer on the panel byte channel. -/
def State.logPanel (s : State) (t : PanelTransfer) : State := { s with panelLog := t :: s.panelLog }

/-! ### Errors: raising and clearing -/

/-- R118, R124: record an error: set its sticky STATUS bit and overwrite all of ERRINFO. -/
def raise (e : ErrInfo) (s : State) : State :=
  match e.cause with
  | .transport => (s.setTerr true).setErrinfo e
  | .busyWrite => (s.setCerr true).setErrinfo e
  | .reservedOpcode => (s.setCerr true).setErrinfo e
  | .none => s

/-- R120: `raise BUSY_WRITE()`. -/
def raiseBusyWrite (s : State) : State :=
  raise { cause := .busyWrite, row := 0#8, byte := 0#5, tcode := 0#8 } s

/-- R121: `raise RESERVED_OPCODE()`. -/
def raiseReservedOpcode (s : State) : State :=
  raise { cause := .reservedOpcode, row := 0#8, byte := 0#5, tcode := 0#8 } s

/-- R51, R127: a write of `v` to STATUS clears TERR if `v[1]` is 1 and CERR if `v[2]` is 1. ERRINFO stays (R33). -/
def clearSticky (v : Word) (s : State) : State :=
  (s.setTerr (s.terr && !v.getLsbD 1)).setCerr (s.cerr && !v.getLsbD 2)

/-- R49, R120: what may not happen while a stream runs. When BUSY is 1 nothing is performed but the record. -/
def unlessBusy (s : State) (f : State → Result) : Result :=
  if s.stream.busy then .next (raiseBusyWrite s) else f s

/-! ### Stream start and end -/

/-- R108: `StartStream(ff)`. -/
def startStream (ff : Bool) (s : State) : State :=
  s.setStream { busy := true, posRow := 0#8, posByte := 0#5, fromFrame := ff, cs := true }

/-- R109, R122: the end of a stream: BUSY, CS, POS_ROW, POS_BYTE and FROM_FRAME go to 0. -/
def endStream (s : State) : State := s.setStream Stream.idle

/-- R122: `raise TRANSPORT(row, byte, code)`: record the error, drop PREV_VALID where the configuration says so, and
end the stream. -/
def raiseTransport (row : BitVec 8) (byte : BitVec 5) (code : BitVec 8) (s : State) : State :=
  let s1 := raise { cause := .transport, row := row, byte := byte, tcode := code } s
  let s2 := if s1.stream.fromFrame && !s1.cfg.updatePrevOnError then s1.setPrevValid false else s1
  endStream s2

/-! ### INIT and reset -/

/-- R23: INIT on the whole state: only the seven Simulation fields change. -/
def initSim (s : State) : State := s.setSim Sim.init

/-- R137, R139: RESET goes to 1: every piece of state takes its reset value. The configuration is no state (R41), and
the records of what was sent and answered before stay. -/
def enterReset (s : State) : State :=
  { State.resetOf s.cfg with
    resetLine := true, inbox := s.inbox, busLog := s.busLog, panelLog := s.panelLog }

end Sys2Proof.Machine
end

