-- ==== Sys2Proof/Machine/Builder.lean ====
section
/-! DEFINITION. The Frame Descriptor builder BUILD and the equality of Frame Descriptors (41_frame_descriptor.md). -/

namespace Sys2Proof.Machine

/-- R92: the Draw Object of Grid cell `i`. -/
def objGrid (i : Nat) : DrawObject :=
  { asset := 0#8, w := 24#8, h := 24#8, x := BitVec.ofNat 16 (i % 6 * 24), y := BitVec.ofNat 16 ((6 - i / 6) * 24) }

/-- R93: the Draw Object of Segment cell `i` at climbing height `y`, for `y` in 0..=6. -/
def objSeg (y : BitVec 3) (i : Nat) : DrawObject :=
  { asset := 0#8, w := 24#8, h := 24#8, x := BitVec.ofNat 16 (i * 24), y := BitVec.ofNat 16 ((6 - y.toNat) * 24) }

/-- R91, R94: the objects BUILD emits, in emission order: the grid scan, then the segment scan. -/
def builtObjects (m : Sim) : List DrawObject :=
  (setBits m.grid).map objGrid ++ (setBits m.seg).map (objSeg m.y)

/-- R91: write `objs` to the entries from 0 on and their number to the count; the entries after them stay (D25). -/
def loadObjects (objs : List DrawObject) (d : FrameDesc) : FrameDesc :=
  { count := BitVec.ofNat 6 objs.length, entries := d.entries.mapIdx fun k old => objs.getD k old }

/-- R91: BUILD into a descriptor. A Segment object at a height above 6 has no pixel row (R93), the defect of R123. -/
def buildFrame (m : Sim) (d : FrameDesc) : Except Defect FrameDesc :=
  if m.seg ≠ 0#6 ∧ 6 < m.y.toNat then .error .heightRange else .ok (loadObjects (builtObjects m) d)

/-- R26: the Frame Descriptor a register file holds: its first `count` entries. -/
def objects (d : FrameDesc) : List DrawObject := d.entries.toList.take d.count.toNat

/-- R97: FrameEq: the same count, and the same objects in the same order. -/
def frameEq (a b : FrameDesc) : Bool := a.count == b.count && objects a == objects b

/-- R91: BUILD on the whole state. -/
def buildOp (s : State) : Result :=
  match buildFrame s.sim s.oam with
  | .ok d => .next (s.setOam d)
  | .error e => .fault (.structuralDefect e)

/-- R91: BUILD. -/
def execBuild (s : State) : Result := unlessBusy s buildOp

end Sys2Proof.Machine
end

