-- ==== Sys2Proof/Machine/Compositor.lean ====
section
/-! DEFINITION. The compositor: the asset ROM (R56 to R58), the pure functions of 42_compositor.md §1, the frame stream
(R104, R105), and the command COMPOSE (R107). -/

namespace Sys2Proof.Machine

/-- R58: AssetRead. An index past the end of an asset, or an asset number with no asset, reads 0. -/
def assetRead (assets : List (List Byte)) (a i : Nat) : Byte :=
  match assets[a]? with
  | some bytes => bytes.getD i 0#8
  | none => 0#8

/-- R99: the 8-bit bit reversal. -/
def rev8 (b : Byte) : Byte := b.reverse

/-- R100: the first fetch, for the offset `dx` of the byte's first pixel in the object and the row `dy` of the object. -/
def firstFetch (assets : List (List Byte)) (o : DrawObject) (dx : Int) (dy : Nat) : Byte :=
  if 0 ≤ dx ∧ dx < o.w.toNat then
    assetRead assets o.asset.toNat (dx.toNat / 8 + dy * (o.w.toNat / 8)) <<< (dx.toNat % 8)
  else 0#8

/-- R100: the second fetch, independent of the first (90_conflicts.md C1, C4; D29). -/
def secondFetch (assets : List (List Byte)) (o : DrawObject) (dx : Int) (dy : Nat) : Byte :=
  if 0 ≤ dx + 7 ∧ dx + 7 < o.w.toNat then
    assetRead assets o.asset.toNat ((dx + 7).toNat / 8 + dy * (o.w.toNat / 8)) >>> (7 - (dx + 7).toNat % 8)
  else 0#8

/-- R100: `Contrib(o, r, bc)`, the byte object `o` ORs into the accumulator at row `r` and byte column `bc`. -/
def contrib (assets : List (List Byte)) (o : DrawObject) (r bc : Nat) : Byte :=
  let dx : Int := (bc : Int) * 8 - o.x.toNat
  let dy : Int := (r : Int) - o.y.toNat
  if dy < 0 ∨ (o.h.toNat : Int) ≤ dy then 0#8
  else firstFetch assets o dx dy.toNat ||| secondFetch assets o dx dy.toNat

/-- R102: the accumulator after every object of the Frame Descriptor. -/
def accumulate (assets : List (List Byte)) (objs : List DrawObject) (r bc : Nat) : Byte :=
  objs.foldl (fun acc o => acc ||| contrib assets o r bc) 0#8

/-- R102, R103: ComposeByte: the accumulator, inverted. -/
def composeByte (assets : List (List Byte)) (objs : List DrawObject) (r bc : Nat) : Byte :=
  ~~~ (accumulate assets objs r bc)

/-- R104: StreamByte, byte `p` of the row record of row `r`. -/
def streamByte (c : Config) (d : FrameDesc) (r p : Nat) : Byte :=
  if p = 0 then c.cmdByte
  else if p = 1 then rev8 (BitVec.ofNat 8 (r + c.rowAddrBase))
  else composeByte c.assets (objects d) r (p - 2)

/-- R104: the 20 bytes of the row record of row `r`. -/
def rowRecord (c : Config) (d : FrameDesc) (r : Nat) : List Byte := (List.range 20).map (streamByte c d r)

/-- R105: the bytes of a frame stream in order: the row records of rows 0 to 167. -/
def frameStream (c : Config) (d : FrameDesc) : List Byte := (List.range 168).flatMap (rowRecord c d)

/-- R107: COMPOSE on the whole state: a stream that no FRAME started. -/
def composeOp (s : State) : State := startStream false s

/-- R107: COMPOSE. -/
def execCompose (s : State) : Result := unlessBusy s fun s => .next (composeOp s)

end Sys2Proof.Machine
end

