-- ==== Sys2Proof/Machine/StreamEngine.lean ====
section
/-! DEFINITION. The stream engine's step (R109) and the panel byte channel (R40, R59, R110). -/

namespace Sys2Proof.Machine

/-- R137, R109: whether the stream engine has a step: a stream runs and RESET is 0. -/
def streaming (s : State) : Bool := s.stream.busy && !s.resetLine

/-- R104, R109: the byte at the stream's position. -/
def nextByte (s : State) : Byte := streamByte s.cfg s.oam s.stream.posRow.toNat s.stream.posByte.toNat

/-- R40: the byte offered on the panel byte channel, if any. -/
def panelOffer (s : State) : Option Byte := if streaming s then some (nextByte s) else none

/-- R109: the position after a byte that the transport accepted, or the end of the stream after the last one. -/
def advance (s : State) : State :=
  if s.stream.posByte.toNat < 19 then s.setStream { s.stream with posByte := s.stream.posByte + 1#5 }
  else if s.stream.posRow.toNat < 167 then
    s.setStream { s.stream with posRow := s.stream.posRow + 1#8, posByte := 0#5 }
  else endStream s

/-- R109, R122: STREAM_STEP with the transport's answer to the offered byte. -/
def streamStep (a : Answer) (s : State) : State :=
  let s1 := s.logPanel { byte := nextByte s, answer := a }
  match a with
  | .ok => advance s1
  | .err code => raiseTransport s1.stream.posRow s1.stream.posByte code s1

/-- An answer of the transport (R110). It is consumed by a step of the stream engine; where no byte is offered there is
no such step, and the answer is discarded (R139; notes/assumptions/5.md). -/
def takeAnswer (a : Answer) (s : State) : State := if streaming s then streamStep a s else s

end Sys2Proof.Machine
end

