-- ==== Sys2Proof/WellFormed.lean ====
section
/-! DEFINITION. Well-formedness: of a configuration (R8), of an instruction, and of a command word as software
should write it (R67, R69, R70). -/

namespace Sys2Proof

/-- R8: WIDTH is a multiple of 8. -/
def geometryOk (w : Nat) : Bool := w % 8 == 0

/-- R8: the checks on a configuration. That every asset is a finite byte sequence holds by its type. -/
def Config.wellFormed (c : Config) : Bool :=
  geometryOk width && decide (height + c.rowAddrBase ≤ 256) && decide (3 ≤ c.tickBits) && decide (c.tickBits ≤ 32)

/-- R68: no command has an operand that the encoding restricts, so every instruction is well formed. -/
def Instr.wellFormed : Instr → Bool
  | .nop => true
  | .press => true
  | .tick => true
  | .simInit => true
  | .build => true
  | .compose => true
  | .frame => true
  | .period _ => true

/-- A command word as software should write it: an operation of R71 (OP below 8), the reserved bits 7:4 and 31:9
zero (R70), and BTN zero for every operation but PERIOD, which alone reads it (R69). -/
def canonicalWord (v : Word) : Bool :=
  (v &&& 0x00000008#32 == 0#32) && (v &&& 0xFFFFFEF0#32 == 0#32)
    && (v &&& 0x00000100#32 == 0#32 || v &&& 0x0000000F#32 == 7#32)

end Sys2Proof
end

