-- ==== Sys2Proof/Decode.lean ====
section
/-! DEFINITION. The decoder of command words, total on every word and on every byte sequence (R66 to R73), and the
encoder (R71). -/

namespace Sys2Proof

/-- Why a word or a byte sequence is no command. -/
inductive Reject where
  /-- R72: OP is in 0x8..=0xF; the whole reserved range is this one outcome. -/
  | reservedOpcode
  /-- R66: a command is one 32-bit word, and fewer than four byte lanes are given. -/
  | truncated
  deriving DecidableEq, Repr

/-- R67, R68: OP is bits 3:0 of the command word. -/
def opField (v : Word) : BitVec 4 := v.extractLsb' 0 4

/-- R67, R68: BTN is bit 8 of the command word. -/
def btnField (v : Word) : Bool := v.getLsbD 8

/-- R71, R72: the command a word names. Bits 7:4 and 31:9 are ignored (R70), and BTN is read by PERIOD alone (R69). -/
def decode (v : Word) : Except Reject Instr :=
  match (opField v).toNat with
  | 0 => .ok .nop
  | 1 => .ok .press
  | 2 => .ok .tick
  | 3 => .ok .simInit
  | 4 => .ok .build
  | 5 => .ok .compose
  | 6 => .ok .frame
  | 7 => .ok (.period (btnField v))
  | _ => .error .reservedOpcode

/-- R54: the byte lanes of a word, bits [8j+7:8j] at lane `j` (little-endian). -/
def byteLanes (v : Word) : List Byte :=
  [v.extractLsb' 0 8, v.extractLsb' 8 8, v.extractLsb' 16 8, v.extractLsb' 24 8]

/-- The command at the head of a sequence of byte lanes, and the lanes after it (R54, R66). -/
def decodeBytes : List Byte → Except Reject (Instr × List Byte)
  | b0 :: b1 :: b2 :: b3 :: rest =>
    match decode (b3 ++ b2 ++ b1 ++ b0) with
    | .ok i => .ok (i, rest)
    | .error r => .error r
  | _ => .error .truncated

/-- R67, R71: the command word of an instruction, reserved bits 0. -/
def encode : Instr → Word
  | .nop => 0x00000000#32
  | .press => 0x00000001#32
  | .tick => 0x00000002#32
  | .simInit => 0x00000003#32
  | .build => 0x00000004#32
  | .compose => 0x00000005#32
  | .frame => 0x00000006#32
  | .period btn => if btn then 0x00000107#32 else 0x00000007#32

/-- The instruction the decoder reads from the low `nbits` bits of `w`, every other bit of the word 0. -/
def decodeTableWord (nbits w : Nat) : Option Instr :=
  match decodeBytes (byteLanes (BitVec.ofNat 32 (w % 2 ^ nbits))) with
  | .ok (i, _) => some i
  | .error _ => none

end Sys2Proof
end

