-- ==== Sys2Proof/Machine/Simulation.lean ====
section
/-! DEFINITION. The Simulation commands PRESS, TICK and SIM_INIT (40_simulation.md). -/

namespace Sys2Proof.Machine

/-! ### PRESS -/

/-- R76: the Button Press event. -/
def pressSim (m : Sim) : Sim := { m with rising := true }

/-! ### Sub-steps of TICK -/

/-- R79: step 2. -/
def countTick (tickBits : Nat) (m : Sim) : Sim :=
  { m with tickcnt := BitVec.ofNat 32 ((m.tickcnt.toNat + 1) % 2 ^ tickBits) }

/-- R80: fill Grid cell (`x`, Y). -/
def attach (x : Nat) (m : Sim) : Except Defect Sim :=
  if m.y.toNat * 6 + x < 42 then .ok { m with grid := setBit m.grid (m.y.toNat * 6 + x) } else .error .gridIndex

/-- R81: CHARGE_LOSS. -/
def chargeLoss (m : Sim) : Except Defect Sim :=
  if m.len = 0#2 then .error .lenUnderflow else .ok { m with len := m.len - 1#2 }

/-- R80: whether column `x` may attach: ground level, or the cell directly below is Filled. -/
def supported (x : Nat) (m : Sim) : Bool := m.y == 0#3 || m.grid.getLsbD ((m.y.toNat - 1) * 6 + x)

/-- R80: one column of CLIMB_COLUMNS. -/
def climbColumn (m : Sim) (x : Nat) : Except Defect Sim :=
  if m.seg.getLsbD x then
    if supported x m then attach x m else chargeLoss m
  else .ok m

/-- R80: CLIMB_COLUMNS, columns 0 to 5 ascending (D26). -/
def climbColumns (m : Sim) : Except Defect Sim := [0, 1, 2, 3, 4, 5].foldlM climbColumn m

/-- R83: the terminal check fires: GRID, LEN and TICKCNT stay. -/
def terminate (m : Sim) : Sim := { m with y := 0#3, rising := false, finished := true, seg := 0#6 }

/-- R84: `(1 << LEN) - 1`, `LEN` contiguous Filled cells from ring index 0. -/
def rebuiltSeg (len : BitVec 2) : BitVec 6 := BitVec.ofNat 6 (2 ^ len.toNat - 1)

/-- R86: SEG after moving the Filled cell `x` to the cell `LEN` places on. -/
def moveCell (seg : BitVec 6) (len : BitVec 2) (x : Nat) : BitVec 6 :=
  setBit (clearBit seg x) ((x + len.toNat) % 6)

/-- R86: the rest of the scan of SLIDE over the remaining values of `i`. -/
def slideScan (seg : BitVec 6) (len : BitVec 2) : List Nat → Bool → BitVec 6
  | [], _ => seg
  | i :: is, false => slideScan seg len is (!seg.getLsbD (i % 6))
  | i :: is, true => if seg.getLsbD (i % 6) then moveCell seg len (i % 6) else slideScan seg len is true

/-- R86: SLIDE, the 7 iterations `0..=6`. -/
def slide (m : Sim) : Sim := { m with seg := slideScan m.seg m.len [0, 1, 2, 3, 4, 5, 6] false }

/-- R85, R86: steps 4 and 5. -/
def settle (m : Sim) : Sim :=
  let m1 := { m with rising := false }
  if m1.tickcnt.toNat % 8 = 0 then slide m1 else m1

/-- R82 to R84: steps 3b to 3d, then steps 4 and 5. -/
def afterClimb (m : Sim) : Except Defect Sim :=
  let ynext := m.y.toNat + 1
  if m.len = 0#2 ∨ ynext = 7 then .ok (terminate m)
  else if ynext < 7 then .ok (settle { m with y := BitVec.ofNat 3 ynext, seg := rebuiltSeg m.len })
  else .error .heightRange

/-- R77: TICK on the Simulation. -/
def tickSim (tickBits : Nat) (m : Sim) : Except Defect Sim :=
  if m.finished then .ok (if m.rising then Sim.init else m)
  else
    let m1 := countTick tickBits m
    if m1.rising then (climbColumns m1).bind afterClimb else .ok (settle m1)

/-! ### On the whole state -/

/-- R76: PRESS writes RISING only. -/
def pressOp (s : State) : State := s.setSim (pressSim s.sim)

/-- R77: TICK; a structural defect is the model fault of R123. -/
def tickOp (s : State) : Result :=
  match tickSim s.cfg.tickBits s.sim with
  | .ok m => .next (s.setSim m)
  | .error d => .fault (.structuralDefect d)

/-- R76: PRESS. -/
def execPress (s : State) : Result := unlessBusy s fun s => .next (pressOp s)

/-- R77: TICK. -/
def execTick (s : State) : Result := unlessBusy s tickOp

/-- R90: SIM_INIT. -/
def execSimInit (s : State) : Result := unlessBusy s fun s => .next (initSim s)

end Sys2Proof.Machine
end

