-- ==== Sys2Proof/Machine/Control.lean ====
section
/-! DEFINITION. The control commands NOP, FRAME and PERIOD (43_control.md). -/

namespace Sys2Proof.Machine

/-- R114: NOP. While a stream runs it raises BUSY_WRITE, as every CMD write does. -/
def execNop (s : State) : Result := unlessBusy s fun s => .next s

/-- R115: whether FRAME must draw: there is no previous frame, or the one just built differs from it. -/
def mustDraw (s : State) : Bool := !s.prevValid || !frameEq s.oam s.prev

/-- R115: FRAME after its BUILD: record the frame and start its stream, or suppress the redraw. -/
def triggerOp (s : State) : State :=
  if mustDraw s then startStream true (((s.setPrev s.oam).setPrevValid true).setDrawn true)
  else s.setDrawn false

/-- R115: FRAME on the whole state. -/
def frameOp (s : State) : Result := andThen (buildOp s) fun s => .next (triggerOp s)

/-- R116: a Press is detected when the previous sample was low and this one is high. -/
def pressEdge (prev btn : Bool) : Bool := !prev && btn

/-- R117: PERIOD up to its Tick: the sample is remembered and a detected Press is delivered. -/
def sampleOp (btn : Bool) (s : State) : State :=
  if pressEdge s.btnPrev btn then pressOp (s.setBtnPrev btn) else s.setBtnPrev btn

/-- R117: PERIOD on the whole state. -/
def periodOp (btn : Bool) (s : State) : Result := andThen (tickOp (sampleOp btn s)) frameOp

/-- R115: FRAME. -/
def execFrame (s : State) : Result := unlessBusy s frameOp

/-- R117: PERIOD. -/
def execPeriod (btn : Bool) (s : State) : Result := unlessBusy s (periodOp btn)

end Sys2Proof.Machine
end

