-- ==== Sys2Proof/Machine/Dispatch.lean ====
section
/-! DEFINITION. The meaning of every command (R71), one arm per constructor. -/

namespace Sys2Proof.Machine

def exec (i : Instr) (s : State) : Host.Outcome State Fault Refusal :=
  match i with
  | .nop => Sys2Proof.Machine.execNop s
  | .press => Sys2Proof.Machine.execPress s
  | .tick => Sys2Proof.Machine.execTick s
  | .simInit => Sys2Proof.Machine.execSimInit s
  | .build => Sys2Proof.Machine.execBuild s
  | .compose => Sys2Proof.Machine.execCompose s
  | .frame => Sys2Proof.Machine.execFrame s
  | .period btn => Sys2Proof.Machine.execPeriod btn s

end Sys2Proof.Machine
end

