-- ==== Sys2Proof/Machine/Operands.lean ====
section
/-! DEFINITION. How a host access names what it acts on: the bus address and the window (R42), the register map (R43),
which accesses are performed (R44 to R46), and the fields of the OAM words (R39). The operand fields of a command word
are in Decode.lean (R68). -/

namespace Sys2Proof.Machine

/-- R43: the registers of the host window. -/
inductive Reg where
  | cmd
  | status
  | errinfo
  | ctrl
  | gridLo
  | gridHi
  | simstat
  | tickcnt
  | oamCount
  | oamW0 (k : Fin 48)
  | oamW1 (k : Fin 48)
  deriving DecidableEq, Repr

/-- R43: the offset of a register. -/
def Reg.offset : Reg → Nat
  | .cmd => 0x000
  | .status => 0x004
  | .errinfo => 0x008
  | .ctrl => 0x00C
  | .gridLo => 0x010
  | .gridHi => 0x014
  | .simstat => 0x018
  | .tickcnt => 0x01C
  | .oamCount => 0x020
  | .oamW0 k => 0x100 + 8 * k.val
  | .oamW1 k => 0x104 + 8 * k.val

/-- R43: the registers at fixed offsets, by word index `off div 4`. -/
def fixedReg : Nat → Option Reg
  | 0 => some .cmd
  | 1 => some .status
  | 2 => some .errinfo
  | 3 => some .ctrl
  | 4 => some .gridLo
  | 5 => some .gridHi
  | 6 => some .simstat
  | 7 => some .tickcnt
  | 8 => some .oamCount
  | _ => none

/-- R43: the register at a word-aligned offset, `none` where the window is unmapped. -/
def regAt (off : BitVec 12) : Option Reg :=
  if h : 0x100 ≤ off.toNat ∧ off.toNat < 0x280 then
    if off.toNat % 8 = 0 then some (.oamW0 ⟨(off.toNat - 0x100) / 8, by omega⟩)
    else if off.toNat % 8 = 4 then some (.oamW1 ⟨(off.toNat - 0x100) / 8, by omega⟩)
    else none
  else if off.toNat % 4 = 0 then fixedReg (off.toNat / 4)
  else none

/-- R44 to R46: the register an access of `size` bytes at `off` is performed on; `none` where the access is refused by
its size, its alignment or its offset. -/
def accessedReg (off : BitVec 12) (size : Nat) : Option Reg :=
  if size = 4 ∧ off.toNat % 4 = 0 then regAt off else none

/-- R42: the offset in the window at BASE that an access names; `none` for a bus address outside the window, which is
not this block's. -/
def windowOffset (base : Nat) : BusAddr → Option (BitVec 12)
  | .offset off => some off
  | .address addr => if base ≤ addr ∧ addr ≤ base + 0xFFF then some (BitVec.ofNat 12 (addr - base)) else none

/-! ### Fields of a register -/

/-- A word that holds `v` in the bits from `lo` up, and 0 elsewhere. -/
def field {n : Nat} (v : BitVec n) (lo : Nat) : Word := v.setWidth 32 <<< lo

/-- A word that holds the flag `b` in bit `i`, and 0 elsewhere. -/
def flag (b : Bool) (i : Nat) : Word := field (BitVec.ofBool b) i

/-! ### OAM words (R39) -/

/-- R39: OAM_W0 as read: X in 15:0, Y in 31:16. -/
def packW0 (o : DrawObject) : Word := field o.x 0 ||| field o.y 16

/-- R39: OAM_W1 as read: W in 7:0, H in 15:8, ASSET in 23:16. -/
def packW1 (o : DrawObject) : Word := field o.w 0 ||| field o.h 8 ||| field o.asset 16

/-- R53: the object after a write of `v` to its OAM_W0. -/
def unpackW0 (v : Word) (o : DrawObject) : DrawObject :=
  { o with x := v.extractLsb' 0 16, y := v.extractLsb' 16 16 }

/-- R53: the object after a write of `v` to its OAM_W1; the low three bits of W are hardwired 0 (R39, D10). -/
def unpackW1 (v : Word) (o : DrawObject) : DrawObject :=
  { o with w := v.extractLsb' 0 8 &&& 0xF8#8, h := v.extractLsb' 8 8, asset := v.extractLsb' 16 8 }

/-- R53: OAM_COUNT after a write of `v`, taken as a 32-bit unsigned value. -/
def clampCount (v : Word) : BitVec 6 := if v.toNat > 48 then 48#6 else v.extractLsb' 0 6

/-- The descriptor with entry `k` replaced. -/
def setEntry (d : FrameDesc) (k : Fin 48) (o : DrawObject) : FrameDesc :=
  { d with entries := d.entries.set k.val o k.isLt }

end Sys2Proof.Machine
end

