-- ==== Sys2Proof/Machine/Flags.lean ====
section
/-! DEFINITION. The values of the window's registers as the host reads them (R31 to R39, R47), reserved bits 0, and the
output lines (R40). -/

namespace Sys2Proof.Machine

/-- R32: STATUS. -/
def statusWord (s : State) : Word :=
  flag s.stream.busy 0 ||| flag s.terr 1 ||| flag s.cerr 2 ||| flag s.stream.cs 3 ||| flag s.prevValid 4
    ||| flag s.drawn 5

/-- R33, R118: the code of a cause. -/
def causeCode : Cause → BitVec 4
  | .none => 0#4
  | .transport => 1#4
  | .busyWrite => 2#4
  | .reservedOpcode => 3#4

/-- R33: ERRINFO. -/
def errinfoWord (e : ErrInfo) : Word :=
  field (causeCode e.cause) 0 ||| field e.row 8 ||| field e.byte 16 ||| field e.tcode 24

/-- R34, R40: the level of CTRL.DISP_EN, hardwired 0 where there is no display-enable line. -/
def dispLevel (s : State) : Bool := s.cfg.hasDispLine && s.dispEn

/-- R34: CTRL. -/
def ctrlWord (s : State) : Word := flag (dispLevel s) 0

/-- R35: GRID_LO. -/
def gridLoWord (m : Sim) : Word := m.grid.extractLsb' 0 32

/-- R35: GRID_HI. -/
def gridHiWord (m : Sim) : Word := field (m.grid.extractLsb' 32 10) 0

/-- R36: SIMSTAT. -/
def simstatWord (s : State) : Word :=
  field s.sim.seg 0 ||| field s.sim.len 8 ||| field s.sim.y 12 ||| flag s.sim.rising 16 ||| flag s.sim.finished 17
    ||| flag s.btnPrev 18

/-- R37: the TICKCNT register; bits above TICK_BITS read 0. -/
def tickcntWord (s : State) : Word := BitVec.ofNat 32 (s.sim.tickcnt.toNat % 2 ^ s.cfg.tickBits)

/-- R38: the OAM_COUNT register. -/
def oamCountWord (d : FrameDesc) : Word := field d.count 0

/-- R47: `Value(off)`, the 32-bit value a read of a register returns. CMD reads 0 (R31). -/
def readReg (r : Reg) (s : State) : Word :=
  match r with
  | .cmd => 0#32
  | .status => statusWord s
  | .errinfo => errinfoWord s.errinfo
  | .ctrl => ctrlWord s
  | .gridLo => gridLoWord s.sim
  | .gridHi => gridHiWord s.sim
  | .simstat => simstatWord s
  | .tickcnt => tickcntWord s
  | .oamCount => oamCountWord s.oam
  | .oamW0 k => packW0 s.oam.entries[k]
  | .oamW1 k => packW1 s.oam.entries[k]

/-- R40: the CS output. -/
def csOutput (s : State) : Bool := s.stream.cs

/-- R40: the DISP output, present only when HAS_DISP_LINE is 1. -/
def dispOutput (s : State) : Option Bool := if s.cfg.hasDispLine then some (dispLevel s) else none

end Sys2Proof.Machine
end

