-- ==== Sys2Proof/Machine/Window.lean ====
section
/-! DEFINITION. The host's accesses to the register window (20_memory.md §1): reads, writes, and the errors of an access
that is not performed. -/

namespace Sys2Proof.Machine

/-- R49: a performed write of `v` to CMD. While BUSY is 1 every meaning raises BUSY_WRITE itself; a reserved opcode
raises BUSY_WRITE then too, and RESERVED_OPCODE otherwise (R73, R126). -/
def writeCmd (v : Word) (s : State) : Result :=
  match decode v with
  | .ok i => exec i s
  | .error _ => unlessBusy s fun s => .next (raiseReservedOpcode s)

/-- R52: a performed write of `v` to CTRL. -/
def writeCtrl (v : Word) (s : State) : State := if s.cfg.hasDispLine then s.setDispEn (v.getLsbD 0) else s

/-- R53: a performed write of `v` to OAM_COUNT while no stream runs. -/
def writeOamCount (v : Word) (s : State) : State := s.setOam { s.oam with count := clampCount v }

/-- R53: a performed write of `v` to OAM_W0[k] while no stream runs. -/
def writeOamW0 (k : Fin 48) (v : Word) (s : State) : State :=
  s.setOam (setEntry s.oam k (unpackW0 v s.oam.entries[k]))

/-- R53: a performed write of `v` to OAM_W1[k] while no stream runs. -/
def writeOamW1 (k : Fin 48) (v : Word) (s : State) : State :=
  s.setOam (setEntry s.oam k (unpackW1 v s.oam.entries[k]))

/-- R48 to R53: a performed write of `v`. A write to a read-only register changes nothing (R48). -/
def writeReg (r : Reg) (v : Word) (s : State) : Result :=
  match r with
  | .cmd => writeCmd v s
  | .status => .next (clearSticky v s)
  | .errinfo => .next s
  | .ctrl => .next (writeCtrl v s)
  | .gridLo => .next s
  | .gridHi => .next s
  | .simstat => .next s
  | .tickcnt => .next s
  | .oamCount => unlessBusy s fun s => .next (writeOamCount v s)
  | .oamW0 k => unlessBusy s fun s => .next (writeOamW0 k v s)
  | .oamW1 k => unlessBusy s fun s => .next (writeOamW1 k v s)

/-- The register a host access is performed on. R137: none while RESET is 1. -/
def grantedReg (off : BitVec 12) (size : Nat) (s : State) : Option Reg :=
  if s.resetLine then none else accessedReg off size

/-- R47, R119: a read at an offset of the window. -/
def readAt (off : BitVec 12) (size : Nat) (s : State) : Result :=
  match grantedReg off size s with
  | some r => .next (s.logBus (.data (readReg r s)))
  | none => .next (s.logBus .busError)

/-- R48, R119: a write at an offset of the window. -/
def writeAt (off : BitVec 12) (size : Nat) (v : Word) (s : State) : Result :=
  match grantedReg off size s with
  | some r => writeReg r v (s.logBus .done)
  | none => .next (s.logBus .busError)

/-- A host access (R42): one outside the window is not this block's, which neither acts nor responds. -/
def hostRead (at_ : BusAddr) (size : Nat) (s : State) : Result :=
  match windowOffset s.cfg.base at_ with
  | some off => readAt off size s
  | none => .next s

/-- A host write (R42), as `hostRead`. -/
def hostWrite (at_ : BusAddr) (size : Nat) (v : Word) (s : State) : Result :=
  match windowOffset s.cfg.base at_ with
  | some off => writeAt off size v s
  | none => .next s

end Sys2Proof.Machine
end

