-- ==== Sys2Proof/Machine/Agents.lean ====
section
/-! DEFINITION. The steps of the block's agents (R14): the host, the transport with the stream engine, and reset. -/

namespace Sys2Proof.Machine

/-- R137: the RESET input takes a level. At 1 every piece of state takes its reset value; back at 0 the block is idle
and accepts accesses again. -/
def driveReset (level : Bool) (s : State) : State := if level then enterReset s else s.setResetLine false

/-- R14: one event. R139: a late answer is discarded. -/
def takeEvent (e : Event) (s : State) : Result :=
  match e with
  | .read at_ size => hostRead at_ size s
  | .write at_ size v => hostWrite at_ size v s
  | .answer a => .next (takeAnswer a s)
  | .lateAnswer _ => .next s
  | .resetLine level => .next (driveReset level s)

/-- The next event is taken from the inbox. With none, no agent has a step and nothing changes (R110, R136). -/
def takeNext (s : State) : Result :=
  match s.inbox with
  | [] => .next s
  | e :: rest => takeEvent e (s.setInbox rest)

/-- The event by which the host writes the command word of the low `nbits` bits of `w` to CMD (R49). -/
def commandWrite (nbits w : Nat) : Event := .write (.offset 0#12) 4 (BitVec.ofNat 32 (w % 2 ^ nbits))

end Sys2Proof.Machine
end

