-- ==== Sys2Proof/Machine/Step.lean ====
section
/-! DEFINITION. One step of the machine: the next event of the environment (R14, R61). -/

namespace Sys2Proof.Machine

/-- One step. A configuration that fails R8 is refused. -/
def step (s : State) : Host.Outcome State Fault Refusal :=
  if s.cfg.wellFormed then takeNext s else .refused .badConfig

/-- `s` with the host about to write the command word to CMD, and RESET at 0 so that the block takes the write. -/
def State.withFetchWord (s : State) (nbits w : Nat) : State :=
  { s with inbox := commandWrite nbits w :: s.inbox, resetLine := false }

end Sys2Proof.Machine
end

