-- ==== Sys2Proof/Machine/HostProgram.lean ====
section
/-! DEFINITION. The host's programs (R74, R75): the lines of the spec's assembler as data, the register accesses each
one makes, and the host's boot loop (R140). These are the host's accesses, not instructions of the block (D38). -/

namespace Sys2Proof.Machine

/-- R74, R75: one line of a host program. -/
inductive Line where
  /-- `WR off, value`. -/
  | wr (off : BitVec 12) (value : Word)
  /-- `RD off -> name`. -/
  | rd (off : BitVec 12)
  /-- A command mnemonic alone, or `PERIOD 0`, `PERIOD 1`. -/
  | command (i : Instr)
  /-- `WAITIDLE`. -/
  | waitIdle
  /-- `CLRERR`. -/
  | clrErr
  /-- `SETCOUNT n`. -/
  | setCount (n : Word)
  /-- `SETOBJ k, x, y, w, h, a`. -/
  | setObj (k : Fin 48) (x y : BitVec 16) (w h asset : BitVec 8)
  /-- `DISP b`. -/
  | disp (b : Bool)
  deriving DecidableEq, Repr

/-- R74: `WR off, value`, the 4-byte write to BASE + off. -/
def lineWrite (off : BitVec 12) (value : Word) : Event := .write (.offset off) 4 value

/-- R74: `RD off`, the 4-byte read of BASE + off. -/
def lineRead (off : BitVec 12) : Event := .read (.offset off) 4

/-- R75: the accesses a line makes, in order. WAITIDLE is given as one turn of its loop. -/
def Line.expand : Line → List Event
  | .wr off value => [lineWrite off value]
  | .rd off => [lineRead off]
  | .command i => [lineWrite 0x000#12 (encode i)]
  | .waitIdle => [lineRead 0x004#12]
  | .clrErr => [lineWrite 0x004#12 0x00000006#32]
  | .setCount n => [lineWrite 0x020#12 n]
  | .setObj k x y w h a =>
    [lineWrite (BitVec.ofNat 12 (0x100 + 8 * k.val)) ((y.setWidth 32 <<< 16) + x.setWidth 32),
     lineWrite (BitVec.ofNat 12 (0x104 + 8 * k.val)) ((a.setWidth 32 <<< 16) + (h.setWidth 32 <<< 8) + w.setWidth 32)]
  | .disp b => [lineWrite 0x00C#12 (if b then 1#32 else 0#32)]

/-- R75: WAITIDLE goes back to its read when bit 0 of the STATUS word just read is 1. The spec does not say what the
loop does when its read ends in a bus error and so returns no word (RESET at 1; R119, R137): here the host leaves the
loop (DESIGN CHOICE, notes/assumptions/21.md). No read completes as a write does, so `.done` never arises. -/
def pollAgain (r : BusResponse) : Bool :=
  match r with
  | .data v => v.getLsbD 0
  | .done => false
  | .busError => false

/-- R140: one turn of the host's loop after reset, for the sampled button level. -/
def bootPeriod (btn : Bool) : List Line := [.command (.period btn), .waitIdle, .rd 0x004#12]

/-- R140: what the loop adds when the STATUS word read shows TERR: ERRINFO is read and TERR cleared. -/
def bootErrorCheck (status : Word) : List Line :=
  if status.getLsbD 1 then [.rd 0x008#12, .wr 0x004#12 0x00000002#32] else []

end Sys2Proof.Machine
end

