-- ==== Sys2Proof/Safety.lean ====
section
/-! DEFINITION. What counts as a good state and a safe step, and the spec's own descriptions that the statements compare
the machine with: the invariants of R24 and of the register files, the slide in terms of positions (R86), pixels (R101),
and runs of PRESS and TICK (R88). -/

namespace Sys2Proof.Machine

/-! ### Invariants -/

/-- R24 (I2): the Filled cells of `seg` are the `len` ring cells from `start` on. -/
abbrev ArcFrom (seg : BitVec 6) (len start : Nat) : Prop :=
  ∀ j : Fin 6, seg.getLsbD ((start + j.val) % 6) = decide (j.val < len)

/-- R24, (I1) to (I6), and the width of TICKCNT (R22). -/
abbrev SimInv (tickBits : Nat) (m : Sim) : Prop :=
  (m.finished = false → 1 ≤ m.len.toNat ∧ popcount m.seg = m.len.toNat)
  ∧ (m.finished = false → ∃ start : Fin 6, ArcFrom m.seg m.len.toNat start.val)
  ∧ (m.finished = true → m.seg = 0#6 ∧ m.y = 0#3)
  ∧ m.y.toNat ≤ 6
  ∧ (m.finished = false → ∀ i : Fin 42, m.y.toNat * 6 ≤ i.val → m.grid.getLsbD i.val = false)
  ∧ m.tickcnt.toNat < 2 ^ tickBits

/-- R25, R26: the count is at most 48 and every stored width is a multiple of 8. -/
abbrev FrameInv (d : FrameDesc) : Prop :=
  d.count.toNat ≤ 48 ∧ ∀ k : Fin 48, d.entries[k].w.toNat % 8 = 0

/-- R30, R106: the positions are in range, CS is 1 exactly while a stream runs, and an idle engine holds zeros. -/
abbrev StreamInv (t : Stream) : Prop :=
  t.posRow.toNat ≤ 167 ∧ t.posByte.toNat ≤ 19 ∧ t.cs = t.busy ∧ (t.busy = false → t = Stream.idle)

/-- R33: ROW, BYTE and TCODE belong to TRANSPORT errors alone, and name a position of the frame. -/
abbrev ErrInv (e : ErrInfo) : Prop :=
  e.row.toNat ≤ 167 ∧ e.byte.toNat ≤ 19
  ∧ (e.cause ≠ Cause.transport → e.row = 0#8 ∧ e.byte = 0#5 ∧ e.tcode = 0#8)

/-- R137: while RESET is 1 every piece of state holds its reset value. PREV and PREV_COUNT have none (R27). -/
abbrev ResetInv (s : State) : Prop := s.resetLine = true → s = { enterReset s with prev := s.prev }

/-- What holds of the block after reset and after every step: R8, R24, R26, R30, R33, R34, R106, R137. -/
abbrev Inv (s : State) : Prop :=
  s.cfg.wellFormed = true ∧ SimInv s.cfg.tickBits s.sim ∧ FrameInv s.oam ∧ FrameInv s.prev ∧ StreamInv s.stream
  ∧ ErrInv s.errinfo ∧ (s.cfg.hasDispLine = false → s.dispEn = false) ∧ ResetInv s

/-- A step that neither faults nor is refused. -/
def SafeStep (s : State) : Prop := ∃ t, step s = .next t

/-! ### The spec's own descriptions -/

/-- R30, R108: the stream engine right after StartStream(`ff`). -/
def startedStream (ff : Bool) : Stream := { busy := true, posRow := 0#8, posByte := 0#5, fromFrame := ff, cs := true }

/-- R120, R121: ERRINFO of an error with cause `c` that names no byte. -/
def plainError (c : Cause) : ErrInfo := { cause := c, row := 0#8, byte := 0#5, tcode := 0#8 }

/-- `s` after BUSY_WRITE is recorded (R120): CERR and ERRINFO change and nothing else. -/
def busyRejected (s : State) : State := { s with cerr := true, errinfo := plainError .busyWrite }

/-- `s` once its first event is consumed, `rest` remaining. -/
def consumed (s : State) (rest : List Event) : State := { s with inbox := rest }

/-- `s` once its first event, a host access, is consumed and answered with `r`. -/
def responded (s : State) (rest : List Event) (r : BusResponse) : State :=
  { s with inbox := rest, busLog := r :: s.busLog }

/-- The block can take a host access: its configuration passes R8 and RESET is 0 (R137). -/
abbrev Ready (s : State) : Prop := s.cfg.wellFormed = true ∧ s.resetLine = false

/-- The next event of `s` is a 4-byte write of `v` to offset `off` of the window, and `rest` comes after it. -/
abbrev NextWrite (s : State) (off : BitVec 12) (v : Word) (rest : List Event) : Prop :=
  ∃ a, s.inbox = Event.write a 4 v :: rest ∧ windowOffset s.cfg.base a = some off

/-- R22, R79: TICKCNT one Tick later. -/
def nextCount (s : State) : Nat := (s.sim.tickcnt.toNat + 1) % 2 ^ s.cfg.tickBits

/-- R86: `g` is the first Empty cell of the scan `0..=6`. -/
abbrev FirstGap (seg : BitVec 6) (g : Nat) : Prop :=
  g ≤ 6 ∧ seg.getLsbD (g % 6) = false ∧ ∀ i : Fin 7, i.val < g → seg.getLsbD (i.val % 6) = true

/-- R86: `i` is the first Filled cell of the scan after the gap `g`. -/
abbrev FirstAfterGap (seg : BitVec 6) (g i : Nat) : Prop :=
  g < i ∧ i ≤ 6 ∧ seg.getLsbD (i % 6) = true ∧ ∀ j : Fin 7, g < j.val → j.val < i → seg.getLsbD (j.val % 6) = false

/-- R86: what the sliding step does to SEG, in terms of positions: the first Filled cell after the first gap moves LEN
places on, and without such a cell nothing changes. -/
abbrev SlideSpec (seg : BitVec 6) (len : Nat) (seg' : BitVec 6) : Prop :=
  (∀ g i : Fin 7, FirstGap seg g.val → FirstAfterGap seg g.val i.val →
    ∀ j : Fin 6, seg'.getLsbD j.val =
      (decide (j.val = (i.val % 6 + len) % 6) || (seg.getLsbD j.val && decide (j.val ≠ i.val % 6))))
  ∧ ((∀ g i : Fin 7, FirstGap seg g.val → ¬ FirstAfterGap seg g.val i.val) → seg' = seg)

/-- R80: column `x` of a climbing TICK attaches at row Y. -/
def attaches (m : Sim) (x : Nat) : Bool :=
  m.seg.getLsbD x && (decide (m.y.toNat = 0) || m.grid.getLsbD ((m.y.toNat - 1) * 6 + x))

/-- R81: the number of columns of a climbing TICK that fail to attach. -/
def failedColumns (m : Sim) : Nat :=
  ((List.range 6).filter fun x => m.seg.getLsbD x && !attaches m x).length

/-- R88: `k` pairs of PRESS and TICK. -/
def pressTicks : Nat → State → Result
  | 0, s => .next s
  | k + 1, s => andThen (exec .press s) fun s => andThen (exec .tick s) (pressTicks k)

/-- R101: the output pixel (column `p`, row `r`) lies in the object's rectangle and its asset pixel is lit. -/
def pixelLit (assets : List (List Byte)) (o : DrawObject) (p r : Nat) : Bool :=
  decide (o.x.toNat ≤ p) && decide (p < o.x.toNat + o.w.toNat)
  && decide (o.y.toNat ≤ r) && decide (r < o.y.toNat + o.h.toNat)
  && (assetRead assets o.asset.toNat ((p - o.x.toNat) / 8 + (r - o.y.toNat) * (o.w.toNat / 8))).getLsbD
       (7 - (p - o.x.toNat) % 8)

/-- R113: the object's rectangle covers the output pixel (column `p`, row `r`). -/
def covers (o : DrawObject) (p r : Nat) : Bool :=
  decide (o.x.toNat ≤ p) && decide (p < o.x.toNat + o.w.toNat)
  && decide (o.y.toNat ≤ r) && decide (r < o.y.toNat + o.h.toNat)

/-- R67, R70: the bits of a command word that its operation reads. -/
def careMask : Instr → Word
  | .nop => 0x0000000F#32
  | .press => 0x0000000F#32
  | .tick => 0x0000000F#32
  | .simInit => 0x0000000F#32
  | .build => 0x0000000F#32
  | .compose => 0x0000000F#32
  | .frame => 0x0000000F#32
  | .period _ => 0x0000010F#32

end Sys2Proof.Machine
end

