-- ==== Sys2Proof/Certificates/Slice0/Obligations.lean ====
section
/-! DEFINITION. The statements for the provers. Each cites the rule of spec/ it formalises; a state `s` is any state,
reachable or not, unless a premise says otherwise. An equation `… = .next { s with … }` is the frame too: every field it
does not name keeps its value, the register window, the OAM, PREV, the inbox and the logs included. The block has no
byte-addressed memory (INVENTORY.md, "Memory and ordering"). -/

open Sys2Proof Sys2Proof.Machine

/-! ### Encoding -/

/-- Words written out from R67 and R71: NOP with every ignored bit set, PRESS, TICK (the word of vector V-REG-4),
PERIOD with both levels, COMPOSE with BTN set, and two reserved opcodes. -/
def Obligations.SampleWordsDecode : Prop :=
  decode 0b11111111111111111111111111110000#32 = .ok .nop
  ∧ decode 0b00000000000000000000000000000001#32 = .ok .press
  ∧ decode 0xFFFFFEF2#32 = .ok .tick
  ∧ decode 0b00000000000000000000000000000011#32 = .ok .simInit
  ∧ decode 0b00000000000000000000000000000100#32 = .ok .build
  ∧ decode 0b00000000000000000000000100000101#32 = .ok .compose
  ∧ decode 0b00000000000000000000000000000110#32 = .ok .frame
  ∧ decode 0b00000000000000000000000000000111#32 = .ok (.period false)
  ∧ decode 0b00000000000000000000000100000111#32 = .ok (.period true)
  ∧ decode 0x00000008#32 = .error .reservedOpcode
  ∧ decode 0xFFFFFFFF#32 = .error .reservedOpcode

/-- R71: the opcode map, on every word. -/
def Obligations.OpcodeMapOnEveryWord : Prop :=
  ∀ v : Word,
    (v &&& 0x0000000F#32 = 0#32 → decode v = .ok .nop)
    ∧ (v &&& 0x0000000F#32 = 1#32 → decode v = .ok .press)
    ∧ (v &&& 0x0000000F#32 = 2#32 → decode v = .ok .tick)
    ∧ (v &&& 0x0000000F#32 = 3#32 → decode v = .ok .simInit)
    ∧ (v &&& 0x0000000F#32 = 4#32 → decode v = .ok .build)
    ∧ (v &&& 0x0000000F#32 = 5#32 → decode v = .ok .compose)
    ∧ (v &&& 0x0000000F#32 = 6#32 → decode v = .ok .frame)
    ∧ (v &&& 0x0000000F#32 = 7#32 → decode v = .ok (.period (v.getLsbD 8)))
    ∧ (8 ≤ (v &&& 0x0000000F#32).toNat → decode v = .error .reservedOpcode)

/-- Decode and encode agree (R67, R70, R71): through the byte lanes, a word is read as instruction `i` exactly when its
read bits are those of `encode i`, whatever follows it; the encoding of every instruction is read back as it; and a word
with no ignored bit set is the encoding of what it is read as. -/
def Obligations.DecodeAndEncodeAgree : Prop :=
  (∀ (i : Instr) (v : Word) (rest : List Byte),
    decodeBytes (byteLanes v ++ rest) = .ok (i, rest) ↔ v &&& careMask i = encode i)
  ∧ (∀ (i : Instr) (rest : List Byte), i.wellFormed = true →
    decodeBytes (byteLanes (encode i) ++ rest) = .ok (i, rest))
  ∧ (∀ v : Word, canonicalWord v = true ↔ ∃ i, decode v = .ok i ∧ encode i = v)

/-- R70: the reserved bits 7:4 and 31:9 of a command word are ignored: writing the word, and writing the word with those
bits 0, are the same step. -/
def Obligations.ReservedBitsIgnored : Prop :=
  ∀ (s : State) (v : Word) (rest : List Event) (a : BusAddr), windowOffset s.cfg.base a = some 0x000#12 →
    step { s with inbox := .write a 4 v :: rest } = step { s with inbox := .write a 4 (v &&& 0x0000010F#32) :: rest }

/-- R69: PERIOD reads BTN; a word of another operation performs the same step with BTN 1 as with BTN 0. -/
def Obligations.BtnIgnoredUnlessPeriod : Prop :=
  (∀ v : Word, v &&& 0x0000000F#32 = 7#32 → decode v = .ok (.period (v.getLsbD 8)))
  ∧ ∀ (s : State) (v : Word) (rest : List Event) (a : BusAddr), windowOffset s.cfg.base a = some 0x000#12 →
    v &&& 0x0000000F#32 ≠ 7#32 →
    step { s with inbox := .write a 4 (v ||| 0x00000100#32) :: rest }
      = step { s with inbox := .write a 4 (v &&& 0xFFFFFEFF#32) :: rest }

/-! ### The step -/

/-- A step runs the decoded instruction (R49, R66): when the next event is a write of a command word to CMD and the block
can take it, the step is `exec` of the command on the state whose event is consumed and answered. That a command which
exec turns away with BUSY_WRITE is answered like any other is the model's reading (notes/assumptions/9.md). -/
def Obligations.StepRunsDecodedCommand : Prop :=
  ∀ (s : State) (v : Word) (rest : List Event) (i : Instr), Ready s → NextWrite s 0x000#12 v rest →
    i.wellFormed = true → decode v = .ok i → step s = exec i (responded s rest .done)

/-- R49, R72, R121: a write of any word to CMD raises BUSY_WRITE while BUSY is 1, whatever the word; otherwise performs
the operation of OP in 0..=7; otherwise raises RESERVED_OPCODE, which only records itself. (That decoding is total is the
spec's own inference, R73. How the bus answers a write that raises an error is left open here: notes/assumptions/9.md.) -/
def Obligations.EveryCmdWriteHasOneOutcome : Prop :=
  ∀ (s : State) (v : Word) (rest : List Event), Ready s → NextWrite s 0x000#12 v rest →
    (s.stream.busy = true → ∃ r, step s = .next (busyRejected (responded s rest r)))
    ∧ (s.stream.busy = false → (v &&& 0x0000000F#32).toNat < 8 →
        ∃ i, decode v = .ok i ∧ step s = exec i (responded s rest .done))
    ∧ (s.stream.busy = false → 8 ≤ (v &&& 0x0000000F#32).toNat →
        ∃ r, step s = .next { responded s rest r with cerr := true, errinfo := plainError .reservedOpcode })

/-- R8: a configuration is refused exactly when it fails a check of R8, and nothing else is ever refused. -/
def Obligations.OnlyBadConfigIsRefused : Prop :=
  ∀ (s : State) (r : Refusal), step s = .refused r ↔
    r = .badConfig ∧ ¬ (width % 8 = 0 ∧ height + s.cfg.rowAddrBase ≤ 256 ∧ 3 ≤ s.cfg.tickBits ∧ s.cfg.tickBits ≤ 32)

/-- R110, R142: while a stream runs, only a transport answer or reset changes the stream; the Simulation and the OAM
change at no step but reset. With no event nothing changes, so a transport that never answers leaves BUSY at 1. -/
def Obligations.OnlyAnswersAndResetMoveTheStream : Prop :=
  (∀ s : State, s.cfg.wellFormed = true → s.inbox = [] → step s = .next s)
  ∧ ∀ (s t : State) (e : Event) (rest : List Event), s.inbox = e :: rest → s.stream.busy = true → step s = .next t →
      e ≠ .resetLine true →
      t.sim = s.sim ∧ t.oam = s.oam ∧ ((∀ a, e ≠ .answer a) → t.stream = s.stream)

/-! ### The register window -/

/-- R44, R45, R46, R119: an access of another size than 4, misaligned, or to an offset of no register, completes with a
bus error and changes nothing. -/
def Obligations.RefusedAccessIsBusError : Prop :=
  ∀ (s : State) (a : BusAddr) (off : BitVec 12) (size : Nat) (v : Word) (rest : List Event),
    s.cfg.wellFormed = true → windowOffset s.cfg.base a = some off →
    (size ≠ 4 ∨ off.toNat % 4 ≠ 0 ∨ (∀ r : Reg, r.offset ≠ off.toNat)) →
    step { s with inbox := .read a size :: rest } = .next (responded s rest .busError)
    ∧ step { s with inbox := .write a size v :: rest } = .next (responded s rest .busError)

/-- The register map of R43, exactly: each register at its offset, and no other offset mapped. -/
def Obligations.RegisterMapIsExact : Prop :=
  (regAt 0x000#12 = some .cmd ∧ regAt 0x004#12 = some .status ∧ regAt 0x008#12 = some .errinfo
    ∧ regAt 0x00C#12 = some .ctrl ∧ regAt 0x010#12 = some .gridLo ∧ regAt 0x014#12 = some .gridHi
    ∧ regAt 0x018#12 = some .simstat ∧ regAt 0x01C#12 = some .tickcnt ∧ regAt 0x020#12 = some .oamCount)
  ∧ (∀ k : Fin 48, regAt (BitVec.ofNat 12 (0x100 + 8 * k.val)) = some (.oamW0 k)
      ∧ regAt (BitVec.ofNat 12 (0x104 + 8 * k.val)) = some (.oamW1 k))
  ∧ (∀ off : BitVec 12, (regAt off).isSome = true ↔
      off.toNat % 4 = 0 ∧ (off.toNat ≤ 0x020 ∨ (0x100 ≤ off.toNat ∧ off.toNat ≤ 0x27F)))

/-- R42: the window is BASE..=BASE + 0xFFF: an address in it names the offset `addr - BASE`, and an access outside it is
not the block's (the model's reading: it is consumed and changes nothing else, notes/assumptions/4.md). -/
def Obligations.WindowIsFourKilobytesAtBase : Prop :=
  ∀ (s : State) (addr size : Nat) (v : Word) (rest : List Event), s.cfg.wellFormed = true →
    (s.cfg.base ≤ addr → addr ≤ s.cfg.base + 0xFFF →
      windowOffset s.cfg.base (.address addr) = some (BitVec.ofNat 12 (addr - s.cfg.base))
      ∧ step { s with inbox := .write (.address addr) size v :: rest }
        = step { s with inbox := .write (.offset (BitVec.ofNat 12 (addr - s.cfg.base))) size v :: rest })
    ∧ (addr < s.cfg.base ∨ s.cfg.base + 0xFFF < addr →
      step { s with inbox := .write (.address addr) size v :: rest } = .next (consumed s rest)
      ∧ step { s with inbox := .read (.address addr) size :: rest } = .next (consumed s rest))

/-- R47: a performed read returns the register's value and changes no state; CMD reads 0. -/
def Obligations.ReadReturnsValueAndChangesNothing : Prop :=
  ∀ (s : State) (a : BusAddr) (off : BitVec 12) (r : Reg) (rest : List Event), Ready s →
    windowOffset s.cfg.base a = some off → r.offset = off.toNat →
    step { s with inbox := .read a 4 :: rest } = .next (responded s rest (.data (readReg r s)))
    ∧ readReg .cmd s = 0#32

/-- R32: the layout of STATUS, bit by bit, and its value after reset. -/
def Obligations.StatusLayout : Prop :=
  ∀ s : State,
    (readReg .status s).getLsbD 0 = s.stream.busy ∧ (readReg .status s).getLsbD 1 = s.terr
    ∧ (readReg .status s).getLsbD 2 = s.cerr ∧ (readReg .status s).getLsbD 3 = s.stream.cs
    ∧ (readReg .status s).getLsbD 4 = s.prevValid ∧ (readReg .status s).getLsbD 5 = s.drawn
    ∧ (∀ i, 6 ≤ i → (readReg .status s).getLsbD i = false)
    ∧ readReg .status (State.resetOf s.cfg) = 0#32

/-- R51, R127: a write of `v` to STATUS clears TERR where `v[1]` is 1 and CERR where `v[2]` is 1, while a stream runs
too; every other bit of `v` is ignored and nothing else changes, ERRINFO included (R33, R146). -/
def Obligations.StatusWriteClearsSticky : Prop :=
  ∀ (s : State) (v : Word) (rest : List Event), Ready s → NextWrite s 0x004#12 v rest →
    step s = .next { responded s rest .done with
      terr := s.terr && !v.getLsbD 1, cerr := s.cerr && !v.getLsbD 2 }

/-- R33: the layout of ERRINFO; a CAUSE of 4..=15 never reads. -/
def Obligations.ErrinfoLayout : Prop :=
  ∀ s : State,
    (readReg .errinfo s).extractLsb' 0 4 =
      (match s.errinfo.cause with | .none => 0#4 | .transport => 1#4 | .busyWrite => 2#4 | .reservedOpcode => 3#4)
    ∧ (readReg .errinfo s).extractLsb' 4 4 = 0#4
    ∧ (readReg .errinfo s).extractLsb' 8 8 = s.errinfo.row
    ∧ (readReg .errinfo s).extractLsb' 16 5 = s.errinfo.byte
    ∧ (readReg .errinfo s).extractLsb' 21 3 = 0#3
    ∧ (readReg .errinfo s).extractLsb' 24 8 = s.errinfo.tcode
    ∧ readReg .errinfo (State.resetOf s.cfg) = 0#32

/-- By R35, R36, R37: GRID_LO and GRID_HI show the Grid cell by cell, SIMSTAT has its layout, and TICKCNT reads its
TICK_BITS low bits, 0 after reset. That SIMSTAT reads 0x00000307 after reset is the spec's own inference (R36, "derived:
from rule R23 and rule R28"). -/
def Obligations.SimulationViews : Prop :=
  ∀ s : State,
    (∀ i, i < 32 → (readReg .gridLo s).getLsbD i = s.sim.grid.getLsbD i)
    ∧ (∀ i, i < 10 → (readReg .gridHi s).getLsbD i = s.sim.grid.getLsbD (32 + i))
    ∧ (∀ i, 10 ≤ i → (readReg .gridHi s).getLsbD i = false)
    ∧ (∀ i, (readReg .tickcnt s).getLsbD i = (decide (i < s.cfg.tickBits) && s.sim.tickcnt.getLsbD i))
    ∧ readReg .tickcnt (State.resetOf s.cfg) = 0#32
    ∧ (readReg .simstat s).extractLsb' 0 6 = s.sim.seg ∧ (readReg .simstat s).extractLsb' 6 2 = 0#2
    ∧ (readReg .simstat s).extractLsb' 8 2 = s.sim.len ∧ (readReg .simstat s).extractLsb' 10 2 = 0#2
    ∧ (readReg .simstat s).extractLsb' 12 3 = s.sim.y ∧ (readReg .simstat s).getLsbD 15 = false
    ∧ (readReg .simstat s).getLsbD 16 = s.sim.rising ∧ (readReg .simstat s).getLsbD 17 = s.sim.finished
    ∧ (readReg .simstat s).getLsbD 18 = s.btnPrev ∧ (readReg .simstat s).extractLsb' 19 13 = 0#13
    ∧ readReg .simstat State.reset = 0x00000307#32

/-- R38: OAM_COUNT reads the count in bits 5:0 and 0 above, 0 after reset; a host write of `v` stores `min(v, 48)`, which
a read gives back, and nothing else changes. -/
def Obligations.OamCountClamps : Prop :=
  (∀ s : State, readReg .oamCount s = s.oam.count.setWidth 32
    ∧ readReg .oamCount (State.resetOf s.cfg) = 0#32)
  ∧ ∀ (s : State) (v : Word) (rest : List Event), Ready s → s.stream.busy = false → NextWrite s 0x020#12 v rest →
    ∃ t, step s = .next t
      ∧ t = { responded s rest .done with oam := { s.oam with count := BitVec.ofNat 6 (min v.toNat 48) } }
      ∧ t.oam.count.toNat = min v.toNat 48
      ∧ (readReg .oamCount t).toNat = min v.toNat 48

/-- R39: the layout of OAM_W0[k] and OAM_W1[k], 0 after reset; a host write of `v` stores its fields, W[2:0] hardwired
0, in entry `k` alone: what a read of that word gives back, that every other register reads as before, and that nothing
else changes. -/
def Obligations.OamWordsStoreFields : Prop :=
  (∀ (s : State) (k : Fin 48),
    (readReg (.oamW0 k) s).extractLsb' 0 16 = s.oam.entries[k].x
    ∧ (readReg (.oamW0 k) s).extractLsb' 16 16 = s.oam.entries[k].y
    ∧ (readReg (.oamW1 k) s).extractLsb' 0 8 = s.oam.entries[k].w
    ∧ (readReg (.oamW1 k) s).extractLsb' 8 8 = s.oam.entries[k].h
    ∧ (readReg (.oamW1 k) s).extractLsb' 16 8 = s.oam.entries[k].asset
    ∧ (readReg (.oamW1 k) s).extractLsb' 24 8 = 0#8
    ∧ readReg (.oamW0 k) (State.resetOf s.cfg) = 0#32 ∧ readReg (.oamW1 k) (State.resetOf s.cfg) = 0#32)
  ∧ ∀ (s : State) (v : Word) (rest : List Event) (k : Fin 48), Ready s → s.stream.busy = false →
    (NextWrite s (BitVec.ofNat 12 (0x100 + 8 * k.val)) v rest →
      ∃ t, step s = .next t ∧ t = { responded s rest .done with oam := t.oam }
        ∧ t.oam.entries[k] = { s.oam.entries[k] with x := v.extractLsb' 0 16, y := v.extractLsb' 16 16 }
        ∧ readReg (.oamW0 k) t = v ∧ (∀ r, r ≠ .oamW0 k → readReg r t = readReg r s))
    ∧ (NextWrite s (BitVec.ofNat 12 (0x104 + 8 * k.val)) v rest →
      ∃ t, step s = .next t ∧ t = { responded s rest .done with oam := t.oam }
        ∧ t.oam.entries[k] = { s.oam.entries[k] with
            w := v.extractLsb' 0 8 &&& 0xF8#8, h := v.extractLsb' 8 8, asset := v.extractLsb' 16 8 }
        ∧ readReg (.oamW1 k) t = v &&& 0x00FFFFF8#32 ∧ (∀ r, r ≠ .oamW1 k → readReg r t = readReg r s))

/-- R120: while BUSY is 1 a write to CMD or to an OAM register changes nothing but CERR and ERRINFO; writes to STATUS and
CTRL, and every read, are accepted. How the bus answers the rejected write is left open here: notes/assumptions/9.md. -/
def Obligations.BusyWriteIsRejected : Prop :=
  ∀ (s : State) (a : BusAddr) (off : BitVec 12) (v : Word) (rest : List Event) (r : Reg), Ready s →
    s.stream.busy = true → windowOffset s.cfg.base a = some off → r.offset = off.toNat →
    (r = .cmd ∨ r = .oamCount ∨ (∃ k, r = .oamW0 k) ∨ (∃ k, r = .oamW1 k) →
      ∃ b, step { s with inbox := .write a 4 v :: rest } = .next (busyRejected (responded s rest b)))
    ∧ (r = .status → step { s with inbox := .write a 4 v :: rest } = .next { responded s rest .done with
        terr := s.terr && !v.getLsbD 1, cerr := s.cerr && !v.getLsbD 2 })
    ∧ (r = .ctrl → step { s with inbox := .write a 4 v :: rest } = .next { responded s rest .done with
        dispEn := if s.cfg.hasDispLine then v.getLsbD 0 else s.dispEn })
    ∧ step { s with inbox := .read a 4 :: rest } = .next (responded s rest (.data (readReg r s)))

/-- R52: a write of `v` to CTRL sets DISP_EN to `v[0]` when the display-enable line exists and is ignored otherwise,
while a stream runs too; CTRL and the DISP output show it (R34, R40). -/
def Obligations.CtrlWriteDrivesDisp : Prop :=
  ∀ (s : State) (v : Word) (rest : List Event), Ready s → NextWrite s 0x00C#12 v rest →
    (s.cfg.hasDispLine = true → ∃ t, step s = .next t ∧ t = { responded s rest .done with dispEn := v.getLsbD 0 }
      ∧ readReg .ctrl t = v &&& 1#32 ∧ dispOutput t = some (v.getLsbD 0))
    ∧ (s.cfg.hasDispLine = false → step s = .next (responded s rest .done) ∧ readReg .ctrl s = 0#32
      ∧ dispOutput s = none)

/-- R48: a performed write to ERRINFO, GRID_LO, GRID_HI, SIMSTAT or TICKCNT changes no state and completes without error;
a write to a reserved field of CMD, STATUS, CTRL or OAM_W1 is ignored (OAM_W0 has none, and R53 gives OAM_COUNT the
whole 32-bit value). -/
def Obligations.ReadOnlyWritesIgnored : Prop :=
  ∀ (s : State) (a : BusAddr) (off : BitVec 12) (v : Word) (rest : List Event), Ready s →
    windowOffset s.cfg.base a = some off →
    (off.toNat = 0x008 ∨ off.toNat = 0x010 ∨ off.toNat = 0x014 ∨ off.toNat = 0x018 ∨ off.toNat = 0x01C →
      step { s with inbox := .write a 4 v :: rest } = .next (responded s rest .done))
    ∧ (off.toNat = 0x000 → step { s with inbox := .write a 4 v :: rest }
        = step { s with inbox := .write a 4 (v &&& 0x0000010F#32) :: rest })
    ∧ (off.toNat = 0x004 → step { s with inbox := .write a 4 v :: rest }
        = step { s with inbox := .write a 4 (v &&& 0x00000006#32) :: rest })
    ∧ (off.toNat = 0x00C → step { s with inbox := .write a 4 v :: rest }
        = step { s with inbox := .write a 4 (v &&& 0x00000001#32) :: rest })
    ∧ (∀ k : Fin 48, off.toNat = 0x104 + 8 * k.val → step { s with inbox := .write a 4 v :: rest }
        = step { s with inbox := .write a 4 (v &&& 0x00FFFFFF#32) :: rest })

/-- R55: no host read shows the asset ROM, PREV, POS_ROW, POS_BYTE or FROM_FRAME; the configuration with its ASSETS never
changes; outside reset the Simulation changes only by the commands PRESS, TICK, PERIOD and SIM_INIT; and no host access
but a command changes PREV or the stream engine. -/
def Obligations.HostReachesOnlyTheWindow : Prop :=
  (∀ (s : State) (r : Reg) (assets : List (List Byte)) (p : FrameDesc) (row : BitVec 8) (byte : BitVec 5) (ff : Bool),
    readReg r { s with
      cfg := { s.cfg with assets := assets }, prev := p,
      stream := { s.stream with posRow := row, posByte := byte, fromFrame := ff } } = readReg r s)
  ∧ (∀ s t : State, step s = .next t → t.cfg = s.cfg)
  ∧ (∀ (s t : State) (e : Event) (rest : List Event), s.inbox = e :: rest → step s = .next t → t.sim ≠ s.sim →
      e = .resetLine true ∨
      ∃ a v i, e = .write a 4 v ∧ windowOffset s.cfg.base a = some 0x000#12 ∧ decode v = .ok i
        ∧ (i = .press ∨ i = .tick ∨ i = .simInit ∨ ∃ b, i = .period b))
  ∧ (∀ (s t : State) (e : Event) (rest : List Event), s.inbox = e :: rest → step s = .next t →
      t.prev ≠ s.prev ∨ t.stream ≠ s.stream →
      e = .resetLine true ∨ (∃ ans, e = .answer ans) ∨
      ∃ a v, e = .write a 4 v ∧ windowOffset s.cfg.base a = some 0x000#12)

/-- By R75: what the pseudo-instructions of a host program do: a command line issues its command; CLRERR clears TERR and
CERR; SETCOUNT and SETOBJ store a count and one whole object while no stream runs; DISP drives the display-enable line
where there is one; and one turn of WAITIDLE's loop goes on polling exactly while BUSY is 1. That a command which exec
turns away with BUSY_WRITE is answered `done` on the bus is the model's reading (notes/assumptions/9.md), and that
WAITIDLE is given as one turn of its loop is the model's choice (notes/assumptions/19.md). -/
def Obligations.PseudoInstructionsAct : Prop :=
  ∀ (s : State) (rest : List Event), Ready s →
    (∀ i, s.inbox = (Line.command i).expand ++ rest → step s = exec i (responded s rest .done))
    ∧ (s.inbox = Line.clrErr.expand ++ rest →
        step s = .next { responded s rest .done with terr := false, cerr := false })
    ∧ (∀ n, s.stream.busy = false → s.inbox = (Line.setCount n).expand ++ rest →
        step s = .next { responded s rest .done with oam := { s.oam with count := BitVec.ofNat 6 (min n.toNat 48) } })
    ∧ (∀ k x y w h a, s.stream.busy = false → s.inbox = (Line.setObj k x y w h a).expand ++ rest →
        ∃ d, Host.Core.run Sys2Proof.core 2 s
            = .next { s with oam := d, inbox := rest, busLog := .done :: .done :: s.busLog }
          ∧ d.count = s.oam.count ∧ d.entries[k] = { asset := a, w := w &&& 0xF8#8, h := h, x := x, y := y }
          ∧ ∀ j : Fin 48, j ≠ k → d.entries[j] = s.oam.entries[j])
    ∧ (∀ b, s.cfg.hasDispLine = true → s.inbox = (Line.disp b).expand ++ rest →
        step s = .next { responded s rest .done with dispEn := b })
    ∧ (s.inbox = Line.waitIdle.expand ++ rest →
        ∃ v, step s = .next (responded s rest (.data v)) ∧ pollAgain (.data v) = s.stream.busy)

/-! ### PRESS, TICK, SIM_INIT -/

/-- R76: PRESS sets RISING and nothing else (a second one changes nothing, and while FINISHED is 1 it arms the restart of
the next TICK); while BUSY is 1 it only raises BUSY_WRITE. From reset SIMSTAT then reads 0x00010307. -/
def Obligations.PressSetsRising : Prop :=
  decode 0x00000001#32 = .ok .press
  ∧ (∀ s : State,
    (s.stream.busy = false → exec .press s = .next { s with sim := { s.sim with rising := true } })
    ∧ (s.stream.busy = false → s.sim.rising = true → exec .press s = .next s)
    ∧ (s.stream.busy = false → s.sim.finished = true →
        andThen (exec .press s) (exec .tick) = .next { s with sim := Sim.init })
    ∧ (s.stream.busy = true → exec .press s = .next (busyRejected s)))
  ∧ ∃ t, exec .press State.reset = .next t ∧ readReg .simstat t = 0x00010307#32

/-- R90: SIM_INIT gives the seven Simulation fields their values of construction and changes nothing else; while
BUSY is 1 it only raises BUSY_WRITE. -/
def Obligations.SimInitConstructs : Prop :=
  decode 0x00000003#32 = .ok .simInit
  ∧ ∀ s : State,
    (s.stream.busy = false → exec .simInit s = .next { s with sim :=
      { grid := 0#42, seg := 0b000111#6, len := 3#2, y := 0#3, rising := false, finished := false, tickcnt := 0#32 } })
    ∧ (s.stream.busy = true → exec .simInit s = .next (busyRejected s))

/-- R78: a TICK that starts with FINISHED = 1 restarts when RISING is 1 and otherwise changes nothing, TICKCNT
included. -/
def Obligations.TickWhenFinished : Prop :=
  ∀ s : State, s.stream.busy = false → s.sim.finished = true →
    (s.sim.rising = true → exec .tick s = .next { s with sim :=
      { grid := 0#42, seg := 0b000111#6, len := 3#2, y := 0#3, rising := false, finished := false, tickcnt := 0#32 } })
    ∧ (s.sim.rising = false → exec .tick s = .next s)

/-- R86 (with R79, R85): a TICK with no climb advances TICKCNT and slides SEG exactly when the new TICKCNT is a multiple
of 8: the first Filled cell after the first gap of the scan moves LEN places on. LEN, GRID, Y and everything outside the
Simulation stay. -/
def Obligations.TickWithoutClimbSlides : Prop :=
  ∀ s : State, s.stream.busy = false → s.sim.finished = false → s.sim.rising = false →
    ∃ seg', exec .tick s = .next { s with sim :=
        { s.sim with tickcnt := BitVec.ofNat 32 (nextCount s), seg := seg' } }
      ∧ ((BitVec.ofNat 32 (nextCount s)).toNat % 8 = 0 → SlideSpec s.sim.seg s.sim.len.toNat seg')
      ∧ ((BitVec.ofNat 32 (nextCount s)).toNat % 8 ≠ 0 → seg' = s.sim.seg)

/-- By R80 to R86: a climbing TICK, for every Simulation that meets the invariants: which cells of the Grid fill, what LEN
loses, when the terminal check ends the playthrough, and otherwise the new height, the rebuilt Segment and its slide.
Nothing outside the Simulation changes. That LEN falls by the number of failed columns is the spec's own inference (R81). -/
def Obligations.ClimbingTick : Prop :=
  ∀ s : State, s.stream.busy = false → s.cfg.wellFormed = true → SimInv s.cfg.tickBits s.sim →
    s.sim.finished = false → s.sim.rising = true →
    ∃ m, exec .tick s = .next { s with sim := m }
      ∧ (∀ i, i < 42 → m.grid.getLsbD i =
          (s.sim.grid.getLsbD i || (decide (i / 6 = s.sim.y.toNat) && attaches s.sim (i % 6))))
      ∧ m.len.toNat + failedColumns s.sim = s.sim.len.toNat
      ∧ m.tickcnt.toNat = nextCount s ∧ m.rising = false
      ∧ (m.len = 0#2 ∨ s.sim.y.toNat + 1 = 7 → m.finished = true ∧ m.y = 0#3 ∧ m.seg = 0#6)
      ∧ (m.len ≠ 0#2 → s.sim.y.toNat + 1 ≠ 7 →
          m.finished = false ∧ m.y.toNat = s.sim.y.toNat + 1
          ∧ ∃ rebuilt : BitVec 6, (∀ i, i < 6 → rebuilt.getLsbD i = decide (i < m.len.toNat))
            ∧ (nextCount s % 8 = 0 → SlideSpec rebuilt m.len.toNat m.seg)
            ∧ (nextCount s % 8 ≠ 0 → m.seg = rebuilt))

/-- The spec's own inference (R87): on a Segment that is an arc of LEN cells the slide moves the arc on by one place and keeps LEN and the number
of Filled cells; six slides give SEG back. -/
def Obligations.SlideRotatesArc : Prop :=
  (∀ (s : State) (start : Fin 6), s.stream.busy = false → s.cfg.wellFormed = true → s.sim.finished = false →
    s.sim.rising = false → 1 ≤ s.sim.len.toNat → ArcFrom s.sim.seg s.sim.len.toNat start.val → nextCount s % 8 = 0 →
    ∃ t, exec .tick s = .next t ∧ ArcFrom t.sim.seg s.sim.len.toNat ((start.val + 1) % 6)
      ∧ t.sim.len = s.sim.len ∧ popcount t.sim.seg = s.sim.len.toNat)
  ∧ ∀ (m : Sim) (start : Fin 6), 1 ≤ m.len.toNat → ArcFrom m.seg m.len.toNat start.val →
    slide (slide (slide (slide (slide (slide m))))) = m

/-- The spec's own inference (R145): every TICK leaves RISING at 0; two PRESSes have the effect of one; a PRESS followed by SIM_INIT is lost; and
PERIOD performs its PRESS before its TICK. -/
def Obligations.PressAffectsOnlyTheNextTick : Prop :=
  ∀ s : State, s.stream.busy = false →
    (∀ t, exec .tick s = .next t → t.sim.rising = false)
    ∧ andThen (exec .press s) (exec .press) = exec .press s
    ∧ andThen (exec .press s) (exec .simInit) = exec .simInit s
    ∧ (s.btnPrev = false → exec (.period true) s
        = andThen (exec .press { s with btnPrev := true }) fun s1 => andThen (exec .tick s1) (exec .frame))

/-- The spec's own inference (R24 (I5), with R18): within a playthrough, at every TICK that is no restart, no Filled Grid cell empties and LEN does not
rise. -/
def Obligations.GridGainsAndLenFalls : Prop :=
  ∀ s t : State, s.stream.busy = false → exec .tick s = .next t → ¬ (s.sim.finished = true ∧ s.sim.rising = true) →
    (∀ i, s.sim.grid.getLsbD i = true → t.sim.grid.getLsbD i = true) ∧ t.sim.len.toNat ≤ s.sim.len.toNat

/-- The spec's own inference (R88): from every Simulation that meets the invariants and is not finished, at most 7 - Y pairs of PRESS and TICK
finish the playthrough, and it finishes before the last row only by LEN = 0. -/
def Obligations.PlaythroughFinishesWithinSevenClimbs : Prop :=
  ∀ s : State, s.stream.busy = false → s.cfg.wellFormed = true → SimInv s.cfg.tickBits s.sim → s.sim.finished = false →
    ∃ k t, 1 ≤ k ∧ k + s.sim.y.toNat ≤ 7 ∧ pressTicks k s = .next t ∧ t.sim.finished = true
      ∧ (k + s.sim.y.toNat < 7 → t.sim.len = 0#2)

/-- By R81, R123: the guard of CHARGE_LOSS: a climbing TICK that starts with LEN = 0 and in which any Filled column fails
to attach, a state the invariants exclude, stops with the fault StructuralDefect(len_underflow), at every height Y of
0..=6. At Y = 7 too, where an attaching column would leave the Grid instead (notes/assumptions/10.md), when the column that
fails is column 0, the first one. -/
def Obligations.LenUnderflowIsStructuralDefect : Prop :=
  ∀ (s : State) (x : Fin 6), s.stream.busy = false → s.sim.finished = false → s.sim.rising = true → s.sim.len = 0#2 →
    s.sim.seg.getLsbD x.val = true → attaches s.sim x.val = false → (s.sim.y.toNat ≤ 6 ∨ x.val = 0) →
    exec .tick s = .fault (.structuralDefect .lenUnderflow)

/-! ### BUILD and FrameEq -/

/-- R91, R92, R93, R94: BUILD writes the Grid's objects in index order and then the Segment's, and their number; the
entries after them keep their values, and nothing outside the OAM changes. While BUSY is 1 it only raises BUSY_WRITE. -/
def Obligations.BuildEmitsGridThenSegment : Prop :=
  decode 0x00000004#32 = .ok .build
  ∧ (∀ s : State, s.stream.busy = true → exec .build s = .next (busyRejected s))
  ∧ ∀ s : State, s.stream.busy = false → s.sim.y.toNat ≤ 6 →
    ∃ d, exec .build s = .next { s with oam := d }
      ∧ objects d =
        ((List.range 42).filter fun i => s.sim.grid.getLsbD i).map (fun i =>
          { asset := 0#8, w := 24#8, h := 24#8,
            x := BitVec.ofNat 16 ((i % 6) * 24), y := BitVec.ofNat 16 ((6 - i / 6) * 24) : DrawObject })
        ++ ((List.range 6).filter fun i => s.sim.seg.getLsbD i).map (fun i =>
          { asset := 0#8, w := 24#8, h := 24#8,
            x := BitVec.ofNat 16 (i * 24), y := BitVec.ofNat 16 ((6 - s.sim.y.toNat) * 24) : DrawObject })
      ∧ d.count.toNat = popcount s.sim.grid + popcount s.sim.seg
      ∧ ∀ k : Fin 48, d.count.toNat ≤ k.val → d.entries[k] = s.oam.entries[k]

/-- The spec's own inference (R95): BUILD emits popcount(GRID) + popcount(SEG) objects: at most 48 in any state and at most 45 in one that meets the
invariants. -/
def Obligations.BuildNeverOverflowsOam : Prop :=
  ∀ s t : State, s.stream.busy = false → exec .build s = .next t →
    t.oam.count.toNat = popcount s.sim.grid + popcount s.sim.seg ∧ t.oam.count.toNat ≤ 48
    ∧ (SimInv s.cfg.tickBits s.sim → t.oam.count.toNat ≤ 45)

/-- R97: two Frame Descriptors are equal exactly when their counts are and every entry below the count agrees in every
field; entries past the count take no part. -/
def Obligations.FrameEqIsStructural : Prop :=
  ∀ a b : FrameDesc, frameEq a b = true ↔
    a.count = b.count ∧ ∀ k : Fin 48, k.val < a.count.toNat →
      a.entries[k].asset = b.entries[k].asset ∧ a.entries[k].w = b.entries[k].w ∧ a.entries[k].h = b.entries[k].h
      ∧ a.entries[k].x = b.entries[k].x ∧ a.entries[k].y = b.entries[k].y

/-! ### The compositor -/

/-- R99: rev8 swaps bit `i` and bit `7 - i`, is its own inverse, and maps the source's example as the source says. -/
def Obligations.Rev8ReversesBits : Prop :=
  (∀ (b : Byte) (i : Nat), i < 8 → (rev8 b).getLsbD i = b.getLsbD (7 - i)) ∧ (∀ b : Byte, rev8 (rev8 b) = b)
  ∧ rev8 0b10100000#8 = 0b00000101#8

/-- R58: AssetRead gives the byte of the asset, and 0 past its end and for an asset number with no asset. -/
def Obligations.AssetReadIsTotal : Prop :=
  ∀ (assets : List (List Byte)) (a i : Nat),
    (∀ (ha : a < assets.length) (hi : i < assets[a].length), assetRead assets a i = assets[a][i])
    ∧ (∀ ha : a < assets.length, assets[a].length ≤ i → assetRead assets a i = 0#8)
    ∧ (assets.length ≤ a → assetRead assets a i = 0#8)

/-- The spec's own inference (R101): bit `7 - j` of an object's contribution is 1 exactly when the output pixel `bc*8 + j` lies in the object's
rectangle and its asset pixel is lit: the byte blit of R100 draws the object's pixels, at every placement. -/
def Obligations.ContribIsPixelExact : Prop :=
  ∀ (assets : List (List Byte)) (o : DrawObject) (r bc j : Nat), o.w.toNat % 8 = 0 → j < 8 →
    (contrib assets o r bc).getLsbD (7 - j) = pixelLit assets o (bc * 8 + j) r

/-- R102, R103: a bit of a composed byte is 0 exactly when some object of the Frame Descriptor sets it: the byte is the
complement of the OR of the contributions. A byte that no object covers is sent as 0xFF. -/
def Obligations.ComposedByteIsInvertedOr : Prop :=
  ∀ (assets : List (List Byte)) (objs : List DrawObject) (r bc : Nat),
    (∀ i, i < 8 →
      ((composeByte assets objs r bc).getLsbD i = false ↔ ∃ o ∈ objs, (contrib assets o r bc).getLsbD i = true))
    ∧ ((∀ o ∈ objs, o.w.toNat % 8 = 0 ∧ ∀ j, j < 8 → covers o (bc * 8 + j) r = false) →
        composeByte assets objs r bc = 0xFF#8)

/-- The spec's own inferences (R102, R112): neither the order of the objects nor a repeated object changes the byte, and
two objects give the OR of theirs, never the first one alone. -/
def Obligations.ComposeIgnoresOrderAndRepeats : Prop :=
  ∀ (assets : List (List Byte)) (r bc : Nat),
    (∀ objs objs' : List DrawObject, (∀ o, o ∈ objs ↔ o ∈ objs') →
      composeByte assets objs r bc = composeByte assets objs' r bc)
    ∧ (∀ o1 o2 : DrawObject, composeByte assets [o1, o2] r bc
        = ~~~ (contrib assets o1 r bc ||| contrib assets o2 r bc))

/-- The spec's own inference (R111): one byte-aligned, on-screen object reproduces its asset's bytes, inverted; every other data byte is 0xFF. -/
def Obligations.AlignedObjectReproducesAsset : Prop :=
  ∀ (assets : List (List Byte)) (o : DrawObject) (bytes : List Byte),
    assets[o.asset.toNat]? = some bytes → o.x.toNat % 8 = 0 → o.w.toNat % 8 = 0 → o.x.toNat + o.w.toNat ≤ 144 →
    o.y.toNat + o.h.toNat ≤ 168 → o.h.toNat * o.w.toNat / 8 ≤ bytes.length →
    ∀ r bc, r < 168 → bc < 18 →
      composeByte assets [o] r bc =
        if o.y.toNat ≤ r ∧ r < o.y.toNat + o.h.toNat ∧ o.x.toNat / 8 ≤ bc ∧ bc < (o.x.toNat + o.w.toNat) / 8 then
          ~~~ (bytes.getD ((bc - o.x.toNat / 8) + (r - o.y.toNat) * (o.w.toNat / 8)) 0#8)
        else 0xFF#8

/-- The spec's own inference (R113): on this hardware's asset ROM, a frame that BUILD made has the data byte 0x00 where some emitted object covers
pixel column `bc*8` of the row, and 0xFF elsewhere. -/
def Obligations.BuilderFrameBytes : Prop :=
  ∀ s t : State, s.stream.busy = false → s.cfg.assets = [List.replicate 72 0xFF#8] → exec .build s = .next t →
    ∀ r bc, r < 168 → bc < 18 →
      composeByte s.cfg.assets (objects t.oam) r bc =
        if ∃ o ∈ objects t.oam, covers o (bc * 8) r = true then 0x00#8 else 0xFF#8

/-- R104 (in the order of R105): a frame stream is 3360 bytes: byte `r*20 + p` is CMD_BYTE for `p = 0`, the reversed row address for
`p = 1`, and the composed byte of column `p - 2` after that. -/
def Obligations.FrameStreamLayout : Prop :=
  ∀ (c : Config) (d : FrameDesc),
    (frameStream c d).length = 3360
    ∧ ∀ r p, r < 168 → p < 20 →
      (frameStream c d)[r * 20 + p]? = some
        (if p = 0 then c.cmdByte else if p = 1 then rev8 (BitVec.ofNat 8 (r + c.rowAddrBase))
         else composeByte c.assets (objects d) r (p - 2))

/-- R107 (by R108): COMPOSE starts a stream that no FRAME started and changes nothing else; while BUSY is 1 it only raises
BUSY_WRITE. With OAM_COUNT 0 every data byte of the stream is 0xFF, and an object of no height, of no width, or placed
outside the output contributes nothing to it. -/
def Obligations.ComposeStartsStream : Prop :=
  decode 0x00000005#32 = .ok .compose
  ∧ ∀ s : State,
    (s.stream.busy = false → exec .compose s = .next { s with stream := startedStream false })
    ∧ (s.stream.busy = true → exec .compose s = .next (busyRejected s))
    ∧ (∀ r p, s.oam.count = 0#6 → 2 ≤ p → streamByte s.cfg s.oam r p = 0xFF#8)
    ∧ ∀ (o : DrawObject) (r bc : Nat), r < 168 → bc < 18 →
        (o.h = 0#8 ∨ o.w = 0#8 ∨ 144 ≤ o.x.toNat ∨ 168 ≤ o.y.toNat) → contrib s.cfg.assets o r bc = 0#8

/-- R109, R122: a step of the stream engine offers the byte at the stream's position and consumes the answer. After `ok`
the position advances, or the stream ends after the last byte of row 167. After `err(code)` the error is recorded with the
failing position, PREV_VALID is cleared only for a FRAME stream under UPDATE_PREV_ON_ERROR = 0, and the stream ends.
Nothing else changes: the Simulation, the OAM and DRAWN stay. -/
def Obligations.StreamStepOffersOneByte : Prop :=
  ∀ (s : State) (a : Answer) (rest : List Event), Ready s → s.stream.busy = true → s.inbox = .answer a :: rest →
    let b := streamByte s.cfg s.oam s.stream.posRow.toNat s.stream.posByte.toNat
    let s1 := { s with inbox := rest, panelLog := { byte := b, answer := a } :: s.panelLog }
    panelOffer s = some b
    ∧ (a = .ok → s.stream.posByte.toNat < 19 →
        step s = .next { s1 with stream := { s.stream with posByte := s.stream.posByte + 1#5 } })
    ∧ (a = .ok → 19 ≤ s.stream.posByte.toNat → s.stream.posRow.toNat < 167 →
        step s = .next { s1 with stream := { s.stream with posRow := s.stream.posRow + 1#8, posByte := 0#5 } })
    ∧ (a = .ok → 19 ≤ s.stream.posByte.toNat → 167 ≤ s.stream.posRow.toNat →
        step s = .next { s1 with stream := Stream.idle })
    ∧ (∀ code, a = .err code → step s = .next { s1 with
        terr := true
        errinfo := { cause := .transport, row := s.stream.posRow, byte := s.stream.posByte, tcode := code }
        prevValid := if s.stream.fromFrame = true ∧ s.cfg.updatePrevOnError = false then false else s.prevValid
        stream := Stream.idle })

/-- R105 (with R106): when the transport accepts every byte, the 3360 steps after a stream starts send exactly the frame stream
of the OAM, in order, with CS at 1 before each byte, and leave the engine idle with CS at 0 and nothing else changed. -/
def Obligations.WholeFrameIsSent : Prop :=
  ∀ (s : State) (ff : Bool) (rest : List Event), Ready s → s.stream = startedStream ff →
    s.inbox = List.replicate 3360 (.answer .ok) ++ rest →
    Host.Core.run Sys2Proof.core 3360 s = .next { s with
      stream := Stream.idle
      inbox := rest
      panelLog := ((frameStream s.cfg s.oam).map fun b => { byte := b, answer := .ok }).reverse ++ s.panelLog }
    ∧ ∀ k, k < 3360 → ∃ t, Host.Core.run Sys2Proof.core k s = .next t ∧ t.stream.busy = true ∧ t.stream.cs = true
        ∧ panelOffer t = (frameStream s.cfg s.oam)[k]?

/-! ### NOP, FRAME, PERIOD -/

/-- R114: NOP changes nothing; while BUSY is 1 it raises BUSY_WRITE, as every CMD write does. -/
def Obligations.NopDoesNothing : Prop :=
  decode 0x00000000#32 = .ok .nop
  ∧ ∀ s : State,
    (s.stream.busy = false → exec .nop s = .next s) ∧ (s.stream.busy = true → exec .nop s = .next (busyRejected s))

/-- R115: FRAME builds; when PREV is not valid or the built descriptor differs from it, the descriptor is recorded as
PREV and its stream starts; otherwise the redraw is suppressed. -/
def Obligations.FrameDrawsOnlyOnChange : Prop :=
  decode 0x00000006#32 = .ok .frame
  ∧ ∀ s : State,
    (s.stream.busy = true → exec .frame s = .next (busyRejected s))
    ∧ (s.stream.busy = false → s.sim.y.toNat ≤ 6 →
      ∃ d, exec .build s = .next { s with oam := d }
        ∧ ((s.prevValid = false ∨ frameEq d s.prev = false) → exec .frame s = .next { s with
            oam := d, prev := d, prevValid := true, drawn := true, stream := startedStream true })
        ∧ (s.prevValid = true → frameEq d s.prev = true → exec .frame s = .next { s with oam := d, drawn := false }))

/-- By R115 (its example): a FRAME after a FRAME, once the first one's stream is over and with the Simulation unchanged,
builds the same descriptor and suppresses the redraw. -/
def Obligations.SecondFrameIsSuppressed : Prop :=
  ∀ s t : State, s.stream = Stream.idle → exec .frame s = .next t →
    exec .frame { t with stream := Stream.idle } = .next { t with stream := Stream.idle, drawn := false }

/-- R116, R117: PERIOD remembers the sample; the Press, delivered exactly when the previous sample was low and this one
is high, comes before the Tick, and FRAME comes last; while BUSY is 1 nothing of it is performed. From every Simulation
that meets the invariants it completes. -/
def Obligations.PeriodPressesTicksAndFrames : Prop :=
  decode 0x00000007#32 = .ok (.period false) ∧ decode 0x00000107#32 = .ok (.period true)
  ∧ ∀ (s : State) (btn : Bool),
    (s.stream.busy = true → exec (.period btn) s = .next (busyRejected s))
    ∧ (s.stream.busy = false →
      exec (.period btn) s =
        andThen (exec .tick { s with
          btnPrev := btn
          sim := { s.sim with rising := if s.btnPrev = false ∧ btn = true then true else s.sim.rising } })
          (exec .frame))
    ∧ (s.stream.busy = false → s.cfg.wellFormed = true → SimInv s.cfg.tickBits s.sim →
      ∃ t, exec (.period btn) s = .next t ∧ t.btnPrev = btn ∧ t.sim.rising = false
        ∧ t = { s with sim := t.sim, oam := t.oam, prev := t.prev, prevValid := true, btnPrev := btn,
                       drawn := t.stream.busy, stream := t.stream }
        ∧ (t.stream = startedStream true ∨ t.stream = s.stream))

/-- Every command completes with its own effect (R50, R89, R95) in every state that meets the invariants with BUSY at 0,
and none of them touches what it has no business with: the configuration, the error record, CTRL, RESET, the environment;
BTN_PREV changes only by PERIOD, and PREV, PREV_VALID and DRAWN only by FRAME and PERIOD (R27 to R29). -/
def Obligations.EveryCommandCompletes : Prop :=
  ∀ (s : State) (i : Instr), Inv s → s.stream.busy = false → ∃ t, exec i s = .next t
    ∧ t = { s with sim := t.sim, oam := t.oam, prev := t.prev, prevValid := t.prevValid, btnPrev := t.btnPrev,
                   drawn := t.drawn, stream := t.stream }
    ∧ (t.sim ≠ s.sim → i = .press ∨ i = .tick ∨ i = .simInit ∨ ∃ b, i = .period b)
    ∧ (t.oam ≠ s.oam → i = .build ∨ i = .frame ∨ ∃ b, i = .period b)
    ∧ (t.btnPrev ≠ s.btnPrev → ∃ b, i = .period b)
    ∧ (t.prev ≠ s.prev ∨ t.prevValid ≠ s.prevValid ∨ t.drawn ≠ s.drawn → i = .frame ∨ ∃ b, i = .period b)
    ∧ (t.stream ≠ s.stream → i = .compose ∨ i = .frame ∨ ∃ b, i = .period b)

/-! ### Errors, reset, invariants -/

/-- R124, R146: at a step that is no reset, STATUS.TERR and STATUS.CERR fall only by a write to STATUS, and ERRINFO
changes only together with the sticky bit of its cause. -/
def Obligations.ErrorRecordIsSticky : Prop :=
  ∀ (s t : State) (e : Event) (rest : List Event), s.inbox = e :: rest → step s = .next t → e ≠ .resetLine true →
    ((s.terr = true ∧ t.terr = false) ∨ (s.cerr = true ∧ t.cerr = false) →
      ∃ a v, e = .write a 4 v ∧ windowOffset s.cfg.base a = some 0x004#12)
    ∧ (t.errinfo ≠ s.errinfo →
      (t.errinfo.cause = .transport ∧ t.terr = true)
      ∨ ((t.errinfo.cause = .busyWrite ∨ t.errinfo.cause = .reservedOpcode) ∧ t.cerr = true))

/-- R41: the reset table. -/
def Obligations.ResetTable : Prop :=
  ∀ c : Config,
    (State.resetOf c).sim =
      { grid := 0#42, seg := 0b000111#6, len := 3#2, y := 0#3, rising := false, finished := false, tickcnt := 0#32 }
    ∧ (State.resetOf c).oam.count = 0#6
    ∧ (∀ k : Fin 48, (State.resetOf c).oam.entries[k] = { asset := 0#8, w := 0#8, h := 0#8, x := 0#16, y := 0#16 })
    ∧ (State.resetOf c).prevValid = false ∧ (State.resetOf c).btnPrev = c.btnPrevReset
    ∧ Config.hardware.btnPrevReset = false ∧ (State.resetOf c).drawn = false
    ∧ (State.resetOf c).stream = { busy := false, posRow := 0#8, posByte := 0#5, fromFrame := false, cs := false }
    ∧ csOutput (State.resetOf c) = false ∧ (readReg .status (State.resetOf c)).getLsbD 3 = false
    ∧ (State.resetOf c).terr = false ∧ (State.resetOf c).cerr = false
    ∧ readReg .errinfo (State.resetOf c) = 0#32 ∧ readReg .ctrl (State.resetOf c) = 0#32
    ∧ dispOutput (State.resetOf c) ≠ some true ∧ State.reset = State.resetOf Config.hardware

/-- R137, R139: RESET going to 1 gives every piece of state its reset value, whatever the block was doing, with no error
recorded; while it is 1 a host access completes with a bus error and changes nothing, and the transport's answers are
discarded; when it goes back to 0 the block keeps that state and accepts accesses. PREV and PREV_COUNT are left out: they
are unspecified after reset. -/
def Obligations.ResetHoldsTheBlock : Prop :=
  ∀ (s : State) (rest : List Event), s.cfg.wellFormed = true →
    (∀ t, step { s with inbox := .resetLine true :: rest } = .next t →
      t = { State.resetOf s.cfg with
        prev := t.prev, resetLine := true, inbox := rest, busLog := s.busLog, panelLog := s.panelLog }
      ∧ step { t with inbox := .resetLine false :: rest } = .next { t with resetLine := false }
      ∧ (∀ r : Reg, step { t with resetLine := false, inbox := .read (.offset (BitVec.ofNat 12 r.offset)) 4 :: rest }
          = .next (responded { t with resetLine := false } rest (.data (readReg r t))))
      ∧ readReg .status t = 0#32 ∧ csOutput t = false ∧ panelOffer t = none)
    ∧ (∃ t, step { s with inbox := .resetLine true :: rest } = .next t)
    ∧ (s.resetLine = true → ∀ (a : BusAddr) (off : BitVec 12) (size : Nat) (v : Word) (ans : Answer),
      windowOffset s.cfg.base a = some off →
      step { s with inbox := .read a size :: rest } = .next (responded s rest .busError)
      ∧ step { s with inbox := .write a size v :: rest } = .next (responded s rest .busError)
      ∧ step { s with inbox := .answer ans :: rest } = .next (consumed s rest))
    ∧ (∀ ans, step { s with inbox := .lateAnswer ans :: rest } = .next (consumed s rest))

/-- The invariant holds right after reset, on every configuration that passes R8. For PREV and PREV_COUNT it rests on the
model's reset value (notes/assumptions/1.md), which lies in the range R27 gives them. -/
def Obligations.InvariantHoldsAtReset : Prop :=
  Inv State.reset ∧ ∀ c : Config, c.wellFormed = true → Inv (State.resetOf c)

/-- The spec's own inference R24 (I1) to (I6), with R26, R30, R33, R106, R137: every step from a state that meets the invariant, reachable or not,
leads to a state that meets it. -/
def Obligations.EveryStepKeepsInvariant : Prop :=
  ∀ s t : State, Inv s → step s = .next t → Inv t

/-- By R89 and R123 the machine never stops: from every state that meets the invariant the step neither faults nor is
refused, whatever the event. -/
def Obligations.InvariantStatesNeverStop : Prop :=
  ∀ s : State, Inv s → SafeStep s
end

