-- ==== Sys2Proof/Laws/State.lean ====
section
/-! SUPPORT. One lemma per field of State per named update, so that no proof unfolds a record update. -/

namespace Sys2Proof.Machine

section
variable (s : State) (x : Sim)
@[simp] theorem setSim_cfg : (s.setSim x).cfg = s.cfg := rfl
@[simp] theorem setSim_sim : (s.setSim x).sim = x := rfl
@[simp] theorem setSim_oam : (s.setSim x).oam = s.oam := rfl
@[simp] theorem setSim_prev : (s.setSim x).prev = s.prev := rfl
@[simp] theorem setSim_prevValid : (s.setSim x).prevValid = s.prevValid := rfl
@[simp] theorem setSim_btnPrev : (s.setSim x).btnPrev = s.btnPrev := rfl
@[simp] theorem setSim_drawn : (s.setSim x).drawn = s.drawn := rfl
@[simp] theorem setSim_stream : (s.setSim x).stream = s.stream := rfl
@[simp] theorem setSim_terr : (s.setSim x).terr = s.terr := rfl
@[simp] theorem setSim_cerr : (s.setSim x).cerr = s.cerr := rfl
@[simp] theorem setSim_errinfo : (s.setSim x).errinfo = s.errinfo := rfl
@[simp] theorem setSim_dispEn : (s.setSim x).dispEn = s.dispEn := rfl
@[simp] theorem setSim_resetLine : (s.setSim x).resetLine = s.resetLine := rfl
@[simp] theorem setSim_inbox : (s.setSim x).inbox = s.inbox := rfl
@[simp] theorem setSim_busLog : (s.setSim x).busLog = s.busLog := rfl
@[simp] theorem setSim_panelLog : (s.setSim x).panelLog = s.panelLog := rfl
end

section
variable (s : State) (x : FrameDesc)
@[simp] theorem setOam_cfg : (s.setOam x).cfg = s.cfg := rfl
@[simp] theorem setOam_sim : (s.setOam x).sim = s.sim := rfl
@[simp] theorem setOam_oam : (s.setOam x).oam = x := rfl
@[simp] theorem setOam_prev : (s.setOam x).prev = s.prev := rfl
@[simp] theorem setOam_prevValid : (s.setOam x).prevValid = s.prevValid := rfl
@[simp] theorem setOam_btnPrev : (s.setOam x).btnPrev = s.btnPrev := rfl
@[simp] theorem setOam_drawn : (s.setOam x).drawn = s.drawn := rfl
@[simp] theorem setOam_stream : (s.setOam x).stream = s.stream := rfl
@[simp] theorem setOam_terr : (s.setOam x).terr = s.terr := rfl
@[simp] theorem setOam_cerr : (s.setOam x).cerr = s.cerr := rfl
@[simp] theorem setOam_errinfo : (s.setOam x).errinfo = s.errinfo := rfl
@[simp] theorem setOam_dispEn : (s.setOam x).dispEn = s.dispEn := rfl
@[simp] theorem setOam_resetLine : (s.setOam x).resetLine = s.resetLine := rfl
@[simp] theorem setOam_inbox : (s.setOam x).inbox = s.inbox := rfl
@[simp] theorem setOam_busLog : (s.setOam x).busLog = s.busLog := rfl
@[simp] theorem setOam_panelLog : (s.setOam x).panelLog = s.panelLog := rfl
end

section
variable (s : State) (x : FrameDesc)
@[simp] theorem setPrev_cfg : (s.setPrev x).cfg = s.cfg := rfl
@[simp] theorem setPrev_sim : (s.setPrev x).sim = s.sim := rfl
@[simp] theorem setPrev_oam : (s.setPrev x).oam = s.oam := rfl
@[simp] theorem setPrev_prev : (s.setPrev x).prev = x := rfl
@[simp] theorem setPrev_prevValid : (s.setPrev x).prevValid = s.prevValid := rfl
@[simp] theorem setPrev_btnPrev : (s.setPrev x).btnPrev = s.btnPrev := rfl
@[simp] theorem setPrev_drawn : (s.setPrev x).drawn = s.drawn := rfl
@[simp] theorem setPrev_stream : (s.setPrev x).stream = s.stream := rfl
@[simp] theorem setPrev_terr : (s.setPrev x).terr = s.terr := rfl
@[simp] theorem setPrev_cerr : (s.setPrev x).cerr = s.cerr := rfl
@[simp] theorem setPrev_errinfo : (s.setPrev x).errinfo = s.errinfo := rfl
@[simp] theorem setPrev_dispEn : (s.setPrev x).dispEn = s.dispEn := rfl
@[simp] theorem setPrev_resetLine : (s.setPrev x).resetLine = s.resetLine := rfl
@[simp] theorem setPrev_inbox : (s.setPrev x).inbox = s.inbox := rfl
@[simp] theorem setPrev_busLog : (s.setPrev x).busLog = s.busLog := rfl
@[simp] theorem setPrev_panelLog : (s.setPrev x).panelLog = s.panelLog := rfl
end

section
variable (s : State) (x : Bool)
@[simp] theorem setPrevValid_cfg : (s.setPrevValid x).cfg = s.cfg := rfl
@[simp] theorem setPrevValid_sim : (s.setPrevValid x).sim = s.sim := rfl
@[simp] theorem setPrevValid_oam : (s.setPrevValid x).oam = s.oam := rfl
@[simp] theorem setPrevValid_prev : (s.setPrevValid x).prev = s.prev := rfl
@[simp] theorem setPrevValid_prevValid : (s.setPrevValid x).prevValid = x := rfl
@[simp] theorem setPrevValid_btnPrev : (s.setPrevValid x).btnPrev = s.btnPrev := rfl
@[simp] theorem setPrevValid_drawn : (s.setPrevValid x).drawn = s.drawn := rfl
@[simp] theorem setPrevValid_stream : (s.setPrevValid x).stream = s.stream := rfl
@[simp] theorem setPrevValid_terr : (s.setPrevValid x).terr = s.terr := rfl
@[simp] theorem setPrevValid_cerr : (s.setPrevValid x).cerr = s.cerr := rfl
@[simp] theorem setPrevValid_errinfo : (s.setPrevValid x).errinfo = s.errinfo := rfl
@[simp] theorem setPrevValid_dispEn : (s.setPrevValid x).dispEn = s.dispEn := rfl
@[simp] theorem setPrevValid_resetLine : (s.setPrevValid x).resetLine = s.resetLine := rfl
@[simp] theorem setPrevValid_inbox : (s.setPrevValid x).inbox = s.inbox := rfl
@[simp] theorem setPrevValid_busLog : (s.setPrevValid x).busLog = s.busLog := rfl
@[simp] theorem setPrevValid_panelLog : (s.setPrevValid x).panelLog = s.panelLog := rfl
end

section
variable (s : State) (x : Bool)
@[simp] theorem setBtnPrev_cfg : (s.setBtnPrev x).cfg = s.cfg := rfl
@[simp] theorem setBtnPrev_sim : (s.setBtnPrev x).sim = s.sim := rfl
@[simp] theorem setBtnPrev_oam : (s.setBtnPrev x).oam = s.oam := rfl
@[simp] theorem setBtnPrev_prev : (s.setBtnPrev x).prev = s.prev := rfl
@[simp] theorem setBtnPrev_prevValid : (s.setBtnPrev x).prevValid = s.prevValid := rfl
@[simp] theorem setBtnPrev_btnPrev : (s.setBtnPrev x).btnPrev = x := rfl
@[simp] theorem setBtnPrev_drawn : (s.setBtnPrev x).drawn = s.drawn := rfl
@[simp] theorem setBtnPrev_stream : (s.setBtnPrev x).stream = s.stream := rfl
@[simp] theorem setBtnPrev_terr : (s.setBtnPrev x).terr = s.terr := rfl
@[simp] theorem setBtnPrev_cerr : (s.setBtnPrev x).cerr = s.cerr := rfl
@[simp] theorem setBtnPrev_errinfo : (s.setBtnPrev x).errinfo = s.errinfo := rfl
@[simp] theorem setBtnPrev_dispEn : (s.setBtnPrev x).dispEn = s.dispEn := rfl
@[simp] theorem setBtnPrev_resetLine : (s.setBtnPrev x).resetLine = s.resetLine := rfl
@[simp] theorem setBtnPrev_inbox : (s.setBtnPrev x).inbox = s.inbox := rfl
@[simp] theorem setBtnPrev_busLog : (s.setBtnPrev x).busLog = s.busLog := rfl
@[simp] theorem setBtnPrev_panelLog : (s.setBtnPrev x).panelLog = s.panelLog := rfl
end

section
variable (s : State) (x : Bool)
@[simp] theorem setDrawn_cfg : (s.setDrawn x).cfg = s.cfg := rfl
@[simp] theorem setDrawn_sim : (s.setDrawn x).sim = s.sim := rfl
@[simp] theorem setDrawn_oam : (s.setDrawn x).oam = s.oam := rfl
@[simp] theorem setDrawn_prev : (s.setDrawn x).prev = s.prev := rfl
@[simp] theorem setDrawn_prevValid : (s.setDrawn x).prevValid = s.prevValid := rfl
@[simp] theorem setDrawn_btnPrev : (s.setDrawn x).btnPrev = s.btnPrev := rfl
@[simp] theorem setDrawn_drawn : (s.setDrawn x).drawn = x := rfl
@[simp] theorem setDrawn_stream : (s.setDrawn x).stream = s.stream := rfl
@[simp] theorem setDrawn_terr : (s.setDrawn x).terr = s.terr := rfl
@[simp] theorem setDrawn_cerr : (s.setDrawn x).cerr = s.cerr := rfl
@[simp] theorem setDrawn_errinfo : (s.setDrawn x).errinfo = s.errinfo := rfl
@[simp] theorem setDrawn_dispEn : (s.setDrawn x).dispEn = s.dispEn := rfl
@[simp] theorem setDrawn_resetLine : (s.setDrawn x).resetLine = s.resetLine := rfl
@[simp] theorem setDrawn_inbox : (s.setDrawn x).inbox = s.inbox := rfl
@[simp] theorem setDrawn_busLog : (s.setDrawn x).busLog = s.busLog := rfl
@[simp] theorem setDrawn_panelLog : (s.setDrawn x).panelLog = s.panelLog := rfl
end

section
variable (s : State) (x : Stream)
@[simp] theorem setStream_cfg : (s.setStream x).cfg = s.cfg := rfl
@[simp] theorem setStream_sim : (s.setStream x).sim = s.sim := rfl
@[simp] theorem setStream_oam : (s.setStream x).oam = s.oam := rfl
@[simp] theorem setStream_prev : (s.setStream x).prev = s.prev := rfl
@[simp] theorem setStream_prevValid : (s.setStream x).prevValid = s.prevValid := rfl
@[simp] theorem setStream_btnPrev : (s.setStream x).btnPrev = s.btnPrev := rfl
@[simp] theorem setStream_drawn : (s.setStream x).drawn = s.drawn := rfl
@[simp] theorem setStream_stream : (s.setStream x).stream = x := rfl
@[simp] theorem setStream_terr : (s.setStream x).terr = s.terr := rfl
@[simp] theorem setStream_cerr : (s.setStream x).cerr = s.cerr := rfl
@[simp] theorem setStream_errinfo : (s.setStream x).errinfo = s.errinfo := rfl
@[simp] theorem setStream_dispEn : (s.setStream x).dispEn = s.dispEn := rfl
@[simp] theorem setStream_resetLine : (s.setStream x).resetLine = s.resetLine := rfl
@[simp] theorem setStream_inbox : (s.setStream x).inbox = s.inbox := rfl
@[simp] theorem setStream_busLog : (s.setStream x).busLog = s.busLog := rfl
@[simp] theorem setStream_panelLog : (s.setStream x).panelLog = s.panelLog := rfl
end

section
variable (s : State) (x : Bool)
@[simp] theorem setTerr_cfg : (s.setTerr x).cfg = s.cfg := rfl
@[simp] theorem setTerr_sim : (s.setTerr x).sim = s.sim := rfl
@[simp] theorem setTerr_oam : (s.setTerr x).oam = s.oam := rfl
@[simp] theorem setTerr_prev : (s.setTerr x).prev = s.prev := rfl
@[simp] theorem setTerr_prevValid : (s.setTerr x).prevValid = s.prevValid := rfl
@[simp] theorem setTerr_btnPrev : (s.setTerr x).btnPrev = s.btnPrev := rfl
@[simp] theorem setTerr_drawn : (s.setTerr x).drawn = s.drawn := rfl
@[simp] theorem setTerr_stream : (s.setTerr x).stream = s.stream := rfl
@[simp] theorem setTerr_terr : (s.setTerr x).terr = x := rfl
@[simp] theorem setTerr_cerr : (s.setTerr x).cerr = s.cerr := rfl
@[simp] theorem setTerr_errinfo : (s.setTerr x).errinfo = s.errinfo := rfl
@[simp] theorem setTerr_dispEn : (s.setTerr x).dispEn = s.dispEn := rfl
@[simp] theorem setTerr_resetLine : (s.setTerr x).resetLine = s.resetLine := rfl
@[simp] theorem setTerr_inbox : (s.setTerr x).inbox = s.inbox := rfl
@[simp] theorem setTerr_busLog : (s.setTerr x).busLog = s.busLog := rfl
@[simp] theorem setTerr_panelLog : (s.setTerr x).panelLog = s.panelLog := rfl
end

section
variable (s : State) (x : Bool)
@[simp] theorem setCerr_cfg : (s.setCerr x).cfg = s.cfg := rfl
@[simp] theorem setCerr_sim : (s.setCerr x).sim = s.sim := rfl
@[simp] theorem setCerr_oam : (s.setCerr x).oam = s.oam := rfl
@[simp] theorem setCerr_prev : (s.setCerr x).prev = s.prev := rfl
@[simp] theorem setCerr_prevValid : (s.setCerr x).prevValid = s.prevValid := rfl
@[simp] theorem setCerr_btnPrev : (s.setCerr x).btnPrev = s.btnPrev := rfl
@[simp] theorem setCerr_drawn : (s.setCerr x).drawn = s.drawn := rfl
@[simp] theorem setCerr_stream : (s.setCerr x).stream = s.stream := rfl
@[simp] theorem setCerr_terr : (s.setCerr x).terr = s.terr := rfl
@[simp] theorem setCerr_cerr : (s.setCerr x).cerr = x := rfl
@[simp] theorem setCerr_errinfo : (s.setCerr x).errinfo = s.errinfo := rfl
@[simp] theorem setCerr_dispEn : (s.setCerr x).dispEn = s.dispEn := rfl
@[simp] theorem setCerr_resetLine : (s.setCerr x).resetLine = s.resetLine := rfl
@[simp] theorem setCerr_inbox : (s.setCerr x).inbox = s.inbox := rfl
@[simp] theorem setCerr_busLog : (s.setCerr x).busLog = s.busLog := rfl
@[simp] theorem setCerr_panelLog : (s.setCerr x).panelLog = s.panelLog := rfl
end

section
variable (s : State) (x : ErrInfo)
@[simp] theorem setErrinfo_cfg : (s.setErrinfo x).cfg = s.cfg := rfl
@[simp] theorem setErrinfo_sim : (s.setErrinfo x).sim = s.sim := rfl
@[simp] theorem setErrinfo_oam : (s.setErrinfo x).oam = s.oam := rfl
@[simp] theorem setErrinfo_prev : (s.setErrinfo x).prev = s.prev := rfl
@[simp] theorem setErrinfo_prevValid : (s.setErrinfo x).prevValid = s.prevValid := rfl
@[simp] theorem setErrinfo_btnPrev : (s.setErrinfo x).btnPrev = s.btnPrev := rfl
@[simp] theorem setErrinfo_drawn : (s.setErrinfo x).drawn = s.drawn := rfl
@[simp] theorem setErrinfo_stream : (s.setErrinfo x).stream = s.stream := rfl
@[simp] theorem setErrinfo_terr : (s.setErrinfo x).terr = s.terr := rfl
@[simp] theorem setErrinfo_cerr : (s.setErrinfo x).cerr = s.cerr := rfl
@[simp] theorem setErrinfo_errinfo : (s.setErrinfo x).errinfo = x := rfl
@[simp] theorem setErrinfo_dispEn : (s.setErrinfo x).dispEn = s.dispEn := rfl
@[simp] theorem setErrinfo_resetLine : (s.setErrinfo x).resetLine = s.resetLine := rfl
@[simp] theorem setErrinfo_inbox : (s.setErrinfo x).inbox = s.inbox := rfl
@[simp] theorem setErrinfo_busLog : (s.setErrinfo x).busLog = s.busLog := rfl
@[simp] theorem setErrinfo_panelLog : (s.setErrinfo x).panelLog = s.panelLog := rfl
end

section
variable (s : State) (x : Bool)
@[simp] theorem setDispEn_cfg : (s.setDispEn x).cfg = s.cfg := rfl
@[simp] theorem setDispEn_sim : (s.setDispEn x).sim = s.sim := rfl
@[simp] theorem setDispEn_oam : (s.setDispEn x).oam = s.oam := rfl
@[simp] theorem setDispEn_prev : (s.setDispEn x).prev = s.prev := rfl
@[simp] theorem setDispEn_prevValid : (s.setDispEn x).prevValid = s.prevValid := rfl
@[simp] theorem setDispEn_btnPrev : (s.setDispEn x).btnPrev = s.btnPrev := rfl
@[simp] theorem setDispEn_drawn : (s.setDispEn x).drawn = s.drawn := rfl
@[simp] theorem setDispEn_stream : (s.setDispEn x).stream = s.stream := rfl
@[simp] theorem setDispEn_terr : (s.setDispEn x).terr = s.terr := rfl
@[simp] theorem setDispEn_cerr : (s.setDispEn x).cerr = s.cerr := rfl
@[simp] theorem setDispEn_errinfo : (s.setDispEn x).errinfo = s.errinfo := rfl
@[simp] theorem setDispEn_dispEn : (s.setDispEn x).dispEn = x := rfl
@[simp] theorem setDispEn_resetLine : (s.setDispEn x).resetLine = s.resetLine := rfl
@[simp] theorem setDispEn_inbox : (s.setDispEn x).inbox = s.inbox := rfl
@[simp] theorem setDispEn_busLog : (s.setDispEn x).busLog = s.busLog := rfl
@[simp] theorem setDispEn_panelLog : (s.setDispEn x).panelLog = s.panelLog := rfl
end

section
variable (s : State) (x : Bool)
@[simp] theorem setResetLine_cfg : (s.setResetLine x).cfg = s.cfg := rfl
@[simp] theorem setResetLine_sim : (s.setResetLine x).sim = s.sim := rfl
@[simp] theorem setResetLine_oam : (s.setResetLine x).oam = s.oam := rfl
@[simp] theorem setResetLine_prev : (s.setResetLine x).prev = s.prev := rfl
@[simp] theorem setResetLine_prevValid : (s.setResetLine x).prevValid = s.prevValid := rfl
@[simp] theorem setResetLine_btnPrev : (s.setResetLine x).btnPrev = s.btnPrev := rfl
@[simp] theorem setResetLine_drawn : (s.setResetLine x).drawn = s.drawn := rfl
@[simp] theorem setResetLine_stream : (s.setResetLine x).stream = s.stream := rfl
@[simp] theorem setResetLine_terr : (s.setResetLine x).terr = s.terr := rfl
@[simp] theorem setResetLine_cerr : (s.setResetLine x).cerr = s.cerr := rfl
@[simp] theorem setResetLine_errinfo : (s.setResetLine x).errinfo = s.errinfo := rfl
@[simp] theorem setResetLine_dispEn : (s.setResetLine x).dispEn = s.dispEn := rfl
@[simp] theorem setResetLine_resetLine : (s.setResetLine x).resetLine = x := rfl
@[simp] theorem setResetLine_inbox : (s.setResetLine x).inbox = s.inbox := rfl
@[simp] theorem setResetLine_busLog : (s.setResetLine x).busLog = s.busLog := rfl
@[simp] theorem setResetLine_panelLog : (s.setResetLine x).panelLog = s.panelLog := rfl
end

section
variable (s : State) (x : List Event)
@[simp] theorem setInbox_cfg : (s.setInbox x).cfg = s.cfg := rfl
@[simp] theorem setInbox_sim : (s.setInbox x).sim = s.sim := rfl
@[simp] theorem setInbox_oam : (s.setInbox x).oam = s.oam := rfl
@[simp] theorem setInbox_prev : (s.setInbox x).prev = s.prev := rfl
@[simp] theorem setInbox_prevValid : (s.setInbox x).prevValid = s.prevValid := rfl
@[simp] theorem setInbox_btnPrev : (s.setInbox x).btnPrev = s.btnPrev := rfl
@[simp] theorem setInbox_drawn : (s.setInbox x).drawn = s.drawn := rfl
@[simp] theorem setInbox_stream : (s.setInbox x).stream = s.stream := rfl
@[simp] theorem setInbox_terr : (s.setInbox x).terr = s.terr := rfl
@[simp] theorem setInbox_cerr : (s.setInbox x).cerr = s.cerr := rfl
@[simp] theorem setInbox_errinfo : (s.setInbox x).errinfo = s.errinfo := rfl
@[simp] theorem setInbox_dispEn : (s.setInbox x).dispEn = s.dispEn := rfl
@[simp] theorem setInbox_resetLine : (s.setInbox x).resetLine = s.resetLine := rfl
@[simp] theorem setInbox_inbox : (s.setInbox x).inbox = x := rfl
@[simp] theorem setInbox_busLog : (s.setInbox x).busLog = s.busLog := rfl
@[simp] theorem setInbox_panelLog : (s.setInbox x).panelLog = s.panelLog := rfl
end

section
variable (s : State) (x : BusResponse)
@[simp] theorem logBus_cfg : (s.logBus x).cfg = s.cfg := rfl
@[simp] theorem logBus_sim : (s.logBus x).sim = s.sim := rfl
@[simp] theorem logBus_oam : (s.logBus x).oam = s.oam := rfl
@[simp] theorem logBus_prev : (s.logBus x).prev = s.prev := rfl
@[simp] theorem logBus_prevValid : (s.logBus x).prevValid = s.prevValid := rfl
@[simp] theorem logBus_btnPrev : (s.logBus x).btnPrev = s.btnPrev := rfl
@[simp] theorem logBus_drawn : (s.logBus x).drawn = s.drawn := rfl
@[simp] theorem logBus_stream : (s.logBus x).stream = s.stream := rfl
@[simp] theorem logBus_terr : (s.logBus x).terr = s.terr := rfl
@[simp] theorem logBus_cerr : (s.logBus x).cerr = s.cerr := rfl
@[simp] theorem logBus_errinfo : (s.logBus x).errinfo = s.errinfo := rfl
@[simp] theorem logBus_dispEn : (s.logBus x).dispEn = s.dispEn := rfl
@[simp] theorem logBus_resetLine : (s.logBus x).resetLine = s.resetLine := rfl
@[simp] theorem logBus_inbox : (s.logBus x).inbox = s.inbox := rfl
@[simp] theorem logBus_busLog : (s.logBus x).busLog = x :: s.busLog := rfl
@[simp] theorem logBus_panelLog : (s.logBus x).panelLog = s.panelLog := rfl
end

section
variable (s : State) (x : PanelTransfer)
@[simp] theorem logPanel_cfg : (s.logPanel x).cfg = s.cfg := rfl
@[simp] theorem logPanel_sim : (s.logPanel x).sim = s.sim := rfl
@[simp] theorem logPanel_oam : (s.logPanel x).oam = s.oam := rfl
@[simp] theorem logPanel_prev : (s.logPanel x).prev = s.prev := rfl
@[simp] theorem logPanel_prevValid : (s.logPanel x).prevValid = s.prevValid := rfl
@[simp] theorem logPanel_btnPrev : (s.logPanel x).btnPrev = s.btnPrev := rfl
@[simp] theorem logPanel_drawn : (s.logPanel x).drawn = s.drawn := rfl
@[simp] theorem logPanel_stream : (s.logPanel x).stream = s.stream := rfl
@[simp] theorem logPanel_terr : (s.logPanel x).terr = s.terr := rfl
@[simp] theorem logPanel_cerr : (s.logPanel x).cerr = s.cerr := rfl
@[simp] theorem logPanel_errinfo : (s.logPanel x).errinfo = s.errinfo := rfl
@[simp] theorem logPanel_dispEn : (s.logPanel x).dispEn = s.dispEn := rfl
@[simp] theorem logPanel_resetLine : (s.logPanel x).resetLine = s.resetLine := rfl
@[simp] theorem logPanel_inbox : (s.logPanel x).inbox = s.inbox := rfl
@[simp] theorem logPanel_busLog : (s.logPanel x).busLog = s.busLog := rfl
@[simp] theorem logPanel_panelLog : (s.logPanel x).panelLog = x :: s.panelLog := rfl
end

/-! ### Parts of State -/

@[simp] theorem idle_busy : Stream.idle.busy = false := rfl
@[simp] theorem idle_posRow : Stream.idle.posRow = 0#8 := rfl
@[simp] theorem idle_posByte : Stream.idle.posByte = 0#5 := rfl
@[simp] theorem idle_fromFrame : Stream.idle.fromFrame = false := rfl
@[simp] theorem idle_cs : Stream.idle.cs = false := rfl
@[simp] theorem init_grid : Sim.init.grid = 0#42 := rfl
@[simp] theorem init_seg : Sim.init.seg = 0b000111#6 := rfl
@[simp] theorem init_len : Sim.init.len = 3#2 := rfl
@[simp] theorem init_y : Sim.init.y = 0#3 := rfl
@[simp] theorem init_rising : Sim.init.rising = false := rfl
@[simp] theorem init_finished : Sim.init.finished = false := rfl
@[simp] theorem init_tickcnt : Sim.init.tickcnt = 0#32 := rfl

end Sys2Proof.Machine
end

