-- ==== Sys2Proof/Laws/Ops.lean ====
section
/-! SUPPORT. What each shared operation does, said once (Machine/Ops.lean). -/

namespace Sys2Proof.Machine

/-! ### Sequencing -/

@[simp] theorem andThen_next (s : State) (f : State → Result) : andThen (.next s) f = f s := rfl
@[simp] theorem andThen_fault (r : Fault) (f : State → Result) : andThen (.fault r) f = .fault r := rfl
@[simp] theorem andThen_refused (r : Refusal) (f : State → Result) : andThen (.refused r) f = .refused r := rfl

/-- A sequence reaches a next state exactly when both parts do. -/
theorem andThen_eq_next {o : Result} {f : State → Result} {t : State} :
    andThen o f = .next t ↔ ∃ s, o = .next s ∧ f s = .next t := by
  cases o <;> simp

/-! ### Errors -/

/-- R120: BUSY_WRITE writes CERR and ERRINFO. -/
theorem raiseBusyWrite_eq (s : State) : raiseBusyWrite s =
    { s with cerr := true, errinfo := { cause := .busyWrite, row := 0#8, byte := 0#5, tcode := 0#8 } } := rfl

/-- R121: RESERVED_OPCODE writes CERR and ERRINFO. -/
theorem raiseReservedOpcode_eq (s : State) : raiseReservedOpcode s =
    { s with cerr := true, errinfo := { cause := .reservedOpcode, row := 0#8, byte := 0#5, tcode := 0#8 } } := rfl

/-- R122: what a transport error writes. -/
theorem raiseTransport_eq (row : BitVec 8) (byte : BitVec 5) (code : BitVec 8) (s : State) :
    raiseTransport row byte code s =
      { s with
        terr := true, errinfo := { cause := .transport, row := row, byte := byte, tcode := code }
        prevValid := if s.stream.fromFrame && !s.cfg.updatePrevOnError then false else s.prevValid
        stream := Stream.idle } := by
  have h : raiseTransport row byte code s =
      endStream (if s.stream.fromFrame && !s.cfg.updatePrevOnError then
        ((s.setTerr true).setErrinfo { cause := .transport, row := row, byte := byte, tcode := code }).setPrevValid false
      else (s.setTerr true).setErrinfo { cause := .transport, row := row, byte := byte, tcode := code }) := rfl
  rw [h]
  split <;> rfl

/-- R51: a STATUS write clears sticky bits and nothing else. -/
theorem clearSticky_eq (v : Word) (s : State) :
    clearSticky v s = { s with terr := s.terr && !v.getLsbD 1, cerr := s.cerr && !v.getLsbD 2 } := rfl

/-! ### The BUSY check -/

/-- R120: while a stream runs, only the record is made. -/
theorem unlessBusy_busy {s : State} (h : s.stream.busy = true) (f : State → Result) :
    unlessBusy s f = .next (raiseBusyWrite s) := by simp [unlessBusy, h]

/-- While no stream runs the operation is performed. -/
theorem unlessBusy_idle {s : State} (h : s.stream.busy = false) (f : State → Result) : unlessBusy s f = f s := by
  simp [unlessBusy, h]

/-- Everything `unlessBusy` can do when it answers a next state. -/
theorem unlessBusy_cases {s t : State} {f : State → Result} (h : unlessBusy s f = .next t) :
    (s.stream.busy = true ∧ t = raiseBusyWrite s) ∨ (s.stream.busy = false ∧ f s = .next t) := by
  cases hb : s.stream.busy with
  | true => rw [unlessBusy_busy hb] at h; exact .inl ⟨rfl, (Host.Outcome.next.inj h).symm⟩
  | false => rw [unlessBusy_idle hb] at h; exact .inr ⟨rfl, h⟩

/-! ### Streams and reset -/

/-- R108: StartStream writes the stream engine's state alone. -/
theorem startStream_eq (ff : Bool) (s : State) : startStream ff s =
    { s with stream := { busy := true, posRow := 0#8, posByte := 0#5, fromFrame := ff, cs := true } } := rfl

/-- R109, R122: the end of a stream writes the stream engine's state alone. -/
theorem endStream_eq (s : State) : endStream s = { s with stream := Stream.idle } := rfl

/-- R23: INIT writes the Simulation alone. -/
theorem initSim_eq (s : State) : initSim s = { s with sim := Sim.init } := rfl

@[simp] theorem enterReset_cfg (s : State) : (enterReset s).cfg = s.cfg := rfl
@[simp] theorem enterReset_resetLine (s : State) : (enterReset s).resetLine = true := rfl

/-- R137: once RESET is 1, holding it there changes nothing. -/
theorem enterReset_enterReset (s : State) : enterReset (enterReset s) = enterReset s := rfl

end Sys2Proof.Machine
end

