-- ==== Sys2Proof/Laws/Builder.lean ====
section
/-! SUPPORT. What the Frame Descriptor builder and the render trigger do (Machine/Builder.lean, Machine/Control.lean). -/

namespace Sys2Proof.Machine

/-- A bit vector has at most as many set bits as bits. -/
theorem popcount_le {n : Nat} (v : BitVec n) : popcount v ≤ n := by
  unfold popcount setBits
  exact (List.length_filter_le _ _).trans (by simp)

/-- R95: BUILD emits popcount(GRID) + popcount(SEG) objects. -/
theorem builtObjects_length (m : Sim) : (builtObjects m).length = popcount m.grid + popcount m.seg := by
  simp [builtObjects, popcount]

/-- R95: at most 48, the capacity of the OAM. -/
theorem builtObjects_length_le (m : Sim) : (builtObjects m).length ≤ 48 := by
  have h1 := popcount_le m.grid
  have h2 := popcount_le m.seg
  rw [builtObjects_length]
  omega

/-- R91: the count after a load. -/
theorem loadObjects_count (objs : List DrawObject) (d : FrameDesc) (h : objs.length ≤ 48) :
    (loadObjects objs d).count.toNat = objs.length := by
  simp only [loadObjects, BitVec.toNat_ofNat]
  omega

/-- R91, D25: the entries after a load: the objects, and the old entries after them. -/
theorem loadObjects_entry (objs : List DrawObject) (d : FrameDesc) (k : Fin 48) :
    (loadObjects objs d).entries[k] = objs.getD k.val d.entries[k] := by
  simp [loadObjects]

/-- R26: the Frame Descriptor after a load is the objects loaded. -/
theorem objects_loadObjects (objs : List DrawObject) (d : FrameDesc) (h : objs.length ≤ 48) :
    objects (loadObjects objs d) = objs := by
  apply List.ext_getElem
  · simp only [objects, List.length_take, Vector.length_toList, loadObjects_count objs d h]
    omega
  · intro i h1 h2
    simp only [objects, List.getElem_take, Vector.getElem_toList]
    have := loadObjects_entry objs d ⟨i, by omega⟩
    simpa [List.getElem?_eq_getElem h2] using this

/-- R91, R93: BUILD completes when the height is in range, and writes the descriptor alone. -/
theorem buildFrame_ok {m : Sim} (d : FrameDesc) (h : m.y.toNat ≤ 6) :
    buildFrame m d = .ok (loadObjects (builtObjects m) d) := by
  have : ¬ (6 < m.y.toNat) := by omega
  simp [buildFrame, this]

/-- R91: if BUILD gives a descriptor, it is the Simulation's objects loaded into the OAM. -/
theorem buildFrame_cases {m : Sim} {d d' : FrameDesc} (h : buildFrame m d = .ok d') :
    (m.seg = 0#6 ∨ m.y.toNat ≤ 6) ∧ d' = loadObjects (builtObjects m) d := by
  unfold buildFrame at h
  split at h
  · cases h
  · rename_i hn
    refine ⟨?_, (Except.ok.inj h).symm⟩
    by_cases hs : m.seg = 0#6
    · exact .inl hs
    · exact .inr (by by_contra hy; exact hn ⟨hs, by omega⟩)

/-- R91: if BUILD answers a next state, only the OAM changed. -/
theorem buildOp_next {s t : State} (h : buildOp s = .next t) :
    (s.sim.seg = 0#6 ∨ s.sim.y.toNat ≤ 6) ∧ t = s.setOam (loadObjects (builtObjects s.sim) s.oam) := by
  unfold buildOp at h
  cases hb : buildFrame s.sim s.oam with
  | error e => rw [hb] at h; cases h
  | ok d =>
    rw [hb] at h
    obtain ⟨h1, h2⟩ := buildFrame_cases hb
    exact ⟨h1, by rw [← h2]; exact (Host.Outcome.next.inj h).symm⟩

/-- R91: BUILD on the whole state, when the height is in range. -/
theorem buildOp_ok {s : State} (h : s.sim.y.toNat ≤ 6) :
    buildOp s = .next (s.setOam (loadObjects (builtObjects s.sim) s.oam)) := by
  simp [buildOp, buildFrame_ok s.oam h]

/-- R115: everything the render trigger can do: record and stream the frame, or suppress the redraw. -/
theorem triggerOp_cases (s : State) :
    ((s.prevValid = false ∨ frameEq s.oam s.prev = false) ∧ triggerOp s =
      { s with prev := s.oam, prevValid := true, drawn := true,
               stream := { busy := true, posRow := 0#8, posByte := 0#5, fromFrame := true, cs := true } })
    ∨ (s.prevValid = true ∧ frameEq s.oam s.prev = true ∧ triggerOp s = { s with drawn := false }) := by
  unfold triggerOp mustDraw
  cases hv : s.prevValid <;> cases hq : frameEq s.oam s.prev
  · exact .inl ⟨.inl rfl, rfl⟩
  · exact .inl ⟨.inl rfl, rfl⟩
  · exact .inl ⟨.inr rfl, rfl⟩
  · refine .inr ⟨rfl, rfl, ?_⟩
    simp [State.setDrawn, hv]

/-- R115: FRAME is BUILD and then the render trigger. -/
theorem frameOp_ok {s : State} (h : s.sim.y.toNat ≤ 6) :
    frameOp s = .next (triggerOp (s.setOam (loadObjects (builtObjects s.sim) s.oam))) := by
  simp [frameOp, buildOp_ok h]

/-- R116: what PERIOD does before its Tick. -/
theorem sampleOp_eq (btn : Bool) (s : State) : sampleOp btn s =
    { s with
      btnPrev := btn
      sim := { s.sim with rising := if s.btnPrev = false ∧ btn = true then true else s.sim.rising } } := by
  unfold sampleOp pressEdge
  cases hp : s.btnPrev <;> cases btn <;> rfl

end Sys2Proof.Machine
end

