-- ==== Sys2Proof/Laws/Compositor.lean ====
section
/-! SUPPORT. What the compositor's pure functions do (Machine/Compositor.lean). -/

namespace Sys2Proof.Machine

/-- R99, bit by bit. -/
theorem rev8_getLsbD (b : Byte) (i : Nat) (h : i < 8) : (rev8 b).getLsbD i = b.getLsbD (7 - i) := by
  rw [rev8, BitVec.getLsbD_reverse, BitVec.getMsbD]
  simp [h]

/-- R58: a read inside the asset. -/
theorem assetRead_of_some {assets : List (List Byte)} {a : Nat} {bytes : List Byte} (h : assets[a]? = some bytes)
    (i : Nat) : assetRead assets a i = bytes.getD i 0#8 := by
  simp [assetRead, h]

/-- R102: a bit of the accumulator is set exactly when some object sets it. -/
theorem accumulate_getLsbD (assets : List (List Byte)) (objs : List DrawObject) (r bc i : Nat) :
    (accumulate assets objs r bc).getLsbD i = true ↔ ∃ o ∈ objs, (contrib assets o r bc).getLsbD i = true := by
  have key : ∀ (objs : List DrawObject) (acc : Byte),
      (objs.foldl (fun acc o => acc ||| contrib assets o r bc) acc).getLsbD i = true ↔
        acc.getLsbD i = true ∨ ∃ o ∈ objs, (contrib assets o r bc).getLsbD i = true := by
    intro objs
    induction objs with
    | nil => intro acc; simp
    | cons o objs ih => intro acc; rw [List.foldl_cons, ih]; simp [or_assoc]
  unfold accumulate
  simpa using key objs 0#8

/-- R105: a frame stream is 3360 bytes. -/
theorem rowRecord_length (c : Config) (d : FrameDesc) (r : Nat) : (rowRecord c d r).length = 20 := by
  simp [rowRecord]

end Sys2Proof.Machine
end

