-- ==== Sys2Proof/Laws/Simulation.lean ====
section
/-! SUPPORT. What the sub-steps of TICK can do (Machine/Simulation.lean). -/

namespace Sys2Proof.Machine

/-! ### Bits -/

@[simp] theorem getLsbD_setBit {n : Nat} (v : BitVec n) (i j : Nat) :
    (setBit v i).getLsbD j = (v.getLsbD j || (decide (j < n) && decide (i = j))) := by
  simp only [setBit, BitVec.getLsbD_or, BitVec.getLsbD_twoPow]
  by_cases h : i = j <;> by_cases h' : j < n <;> simp [h, h']

@[simp] theorem getLsbD_clearBit {n : Nat} (v : BitVec n) (i j : Nat) :
    (clearBit v i).getLsbD j = (v.getLsbD j && decide (i ≠ j)) := by
  simp only [clearBit, BitVec.getLsbD_and, BitVec.getLsbD_not, BitVec.getLsbD_twoPow]
  by_cases h' : j < n
  · by_cases h : i = j <;> simp [h, h']
  · simp [BitVec.getLsbD_of_ge v j (by omega)]

/-! ### One column -/

/-- R80, R81: everything a column of a climb can do: it is skipped, it attaches, or it costs one of LEN. -/
theorem climbColumn_cases {m m' : Sim} {x : Nat} (h : climbColumn m x = .ok m') :
    (m.seg.getLsbD x = false ∧ m' = m)
    ∨ (m.seg.getLsbD x = true ∧ supported x m = true ∧ m.y.toNat * 6 + x < 42
        ∧ m' = { m with grid := setBit m.grid (m.y.toNat * 6 + x) })
    ∨ (m.seg.getLsbD x = true ∧ supported x m = false ∧ m.len ≠ 0#2 ∧ m' = { m with len := m.len - 1#2 }) := by
  unfold climbColumn at h
  split at h
  · rename_i hs
    split at h
    · rename_i hp
      unfold attach at h
      split at h
      · exact .inr (.inl ⟨hs, hp, ‹_›, (Except.ok.inj h).symm⟩)
      · cases h
    · rename_i hp
      unfold chargeLoss at h
      split at h
      · cases h
      · exact .inr (.inr ⟨hs, by simpa using hp, ‹_›, (Except.ok.inj h).symm⟩)
  · rename_i hs
    exact .inl ⟨by simpa using hs, (Except.ok.inj h).symm⟩

/-- R80: a column of a climb writes only GRID and LEN. -/
theorem climbColumn_frame {m m' : Sim} {x : Nat} (h : climbColumn m x = .ok m') :
    m' = { m with grid := m'.grid, len := m'.len } := by
  obtain ⟨-, rfl⟩ | ⟨-, -, -, rfl⟩ | ⟨-, -, -, rfl⟩ := climbColumn_cases h <;> rfl

/-- R80, R81: over any columns, a climb writes only GRID and LEN, empties no cell and does not raise LEN. -/
theorem climb_frame (xs : List Nat) : ∀ {m m' : Sim}, xs.foldlM climbColumn m = .ok m' →
    m' = { m with grid := m'.grid, len := m'.len }
    ∧ (∀ i, m.grid.getLsbD i = true → m'.grid.getLsbD i = true) ∧ m'.len.toNat ≤ m.len.toNat := by
  induction xs with
  | nil => intro m m' h; cases h; exact ⟨rfl, fun _ h => h, le_rfl⟩
  | cons x xs ih =>
    intro m m' h
    rw [List.foldlM_cons] at h
    cases h1 : climbColumn m x with
    | error d => rw [h1] at h; cases h
    | ok m1 =>
      rw [h1] at h
      obtain ⟨he, hg, hl⟩ := ih (show xs.foldlM climbColumn m1 = .ok m' from h)
      have hc := climbColumn_cases h1
      refine ⟨?_, ?_, ?_⟩
      · have hf := climbColumn_frame h1
        rw [he, hf]
      · intro i hi
        apply hg
        obtain ⟨-, rfl⟩ | ⟨-, -, -, rfl⟩ | ⟨-, -, -, rfl⟩ := hc <;> simp [hi]
      · refine hl.trans ?_
        obtain ⟨-, rfl⟩ | ⟨-, -, -, rfl⟩ | ⟨-, -, hz, rfl⟩ := hc
        · exact le_rfl
        · exact le_rfl
        · have : m.len.toNat ≠ 0 := fun h0 => hz (BitVec.eq_of_toNat_eq (by simpa using h0))
          show (m.len - 1#2).toNat ≤ m.len.toNat
          bv_omega

/-! ### Slide, settle, TICK -/

@[simp] theorem slide_grid (m : Sim) : (slide m).grid = m.grid := rfl
@[simp] theorem slide_len (m : Sim) : (slide m).len = m.len := rfl
@[simp] theorem slide_y (m : Sim) : (slide m).y = m.y := rfl
@[simp] theorem slide_rising (m : Sim) : (slide m).rising = m.rising := rfl
@[simp] theorem slide_finished (m : Sim) : (slide m).finished = m.finished := rfl
@[simp] theorem slide_tickcnt (m : Sim) : (slide m).tickcnt = m.tickcnt := rfl

/-- R85, R86: steps 4 and 5 clear RISING, slide SEG when TICKCNT is a multiple of 8, and write nothing else. -/
theorem settle_eq (m : Sim) : settle m =
    { m with
      rising := false
      seg := if m.tickcnt.toNat % 8 = 0 then slideScan m.seg m.len [0, 1, 2, 3, 4, 5, 6] false else m.seg } := by
  unfold settle
  simp only
  split
  · simp [slide, *]
  · simp [*]

/-- R82 to R84: everything steps 3b to 5 can do after the columns of a climb. -/
theorem afterClimb_cases {m m' : Sim} (h : afterClimb m = .ok m') :
    ((m.len = 0#2 ∨ m.y.toNat + 1 = 7) ∧ m' = terminate m)
    ∨ (m.len ≠ 0#2 ∧ m.y.toNat < 6
        ∧ m' = settle { m with y := BitVec.ofNat 3 (m.y.toNat + 1), seg := rebuiltSeg m.len }) := by
  unfold afterClimb at h
  simp only at h
  split at h
  · exact .inl ⟨‹_›, (Except.ok.inj h).symm⟩
  · rename_i hn
    rw [not_or] at hn
    split at h
    · exact .inr ⟨hn.1, by omega, (Except.ok.inj h).symm⟩
    · cases h

/-- R77: everything a TICK can do: the terminal state, a tick without a climb, or a climb. -/
theorem tickSim_cases {tb : Nat} {m m' : Sim} (h : tickSim tb m = .ok m') :
    (m.finished = true ∧ m' = if m.rising then Sim.init else m)
    ∨ (m.finished = false ∧ m.rising = false ∧ m' = settle (countTick tb m))
    ∨ (m.finished = false ∧ m.rising = true
        ∧ ∃ m1, climbColumns (countTick tb m) = .ok m1 ∧ afterClimb m1 = .ok m') := by
  unfold tickSim at h
  split at h
  · exact .inl ⟨‹_›, (Except.ok.inj h).symm⟩
  · rename_i hf
    simp only [Bool.not_eq_true] at hf
    simp only at h
    split at h
    · rename_i hr
      cases hc : climbColumns (countTick tb m) with
      | error d => rw [hc] at h; cases h
      | ok m1 => rw [hc] at h; exact .inr (.inr ⟨hf, hr, m1, rfl, h⟩)
    · rename_i hr
      exact .inr (.inl ⟨hf, by simpa [countTick] using hr, (Except.ok.inj h).symm⟩)

/-- R77: TICK writes the Simulation alone, and it stops only with a structural defect (R123). -/
theorem tickOp_cases (s : State) :
    (∃ m, tickSim s.cfg.tickBits s.sim = .ok m ∧ tickOp s = .next (s.setSim m))
    ∨ (∃ d, tickSim s.cfg.tickBits s.sim = .error d ∧ tickOp s = .fault (.structuralDefect d)) := by
  unfold tickOp
  cases h : tickSim s.cfg.tickBits s.sim with
  | ok m => exact .inl ⟨m, rfl, rfl⟩
  | error d => exact .inr ⟨d, rfl, rfl⟩

/-- R77: if TICK answers a next state, only the Simulation changed. -/
theorem tickOp_next {s t : State} (h : tickOp s = .next t) :
    ∃ m, tickSim s.cfg.tickBits s.sim = .ok m ∧ t = s.setSim m := by
  obtain ⟨m, hm, he⟩ | ⟨d, -, he⟩ := tickOp_cases s
  · rw [he] at h; exact ⟨m, hm, (Host.Outcome.next.inj h).symm⟩
  · rw [he] at h; cases h

end Sys2Proof.Machine
end

