-- ==== Sys2Proof/Laws/Step.lean ====
section
/-! SUPPORT. What a step can do, said once: how it takes each event (Machine/Step.lean, Machine/Agents.lean,
Machine/Window.lean, Machine/StreamEngine.lean), and the register map and decoder it reads. -/

namespace Sys2Proof.Machine

/-! ### Decoder -/

/-- R54: the four lanes put together again are the word. -/
theorem lanes_append (v : Word) :
    v.extractLsb' 24 8 ++ v.extractLsb' 16 8 ++ v.extractLsb' 8 8 ++ v.extractLsb' 0 8 = v := by
  apply BitVec.eq_of_getLsbD_eq
  intro i hi
  simp only [BitVec.getLsbD_append, BitVec.getLsbD_extractLsb']
  by_cases h1 : i < 8
  · simp [h1]
  · by_cases h2 : i < 16
    · simp [h1, show i - 8 < 8 by omega, show 8 + (i - 8) = i by omega]
    · by_cases h3 : i < 24
      · simp [h1, show ¬ i - 8 < 8 by omega, show i - 8 - 8 < 8 by omega, show 16 + (i - 8 - 8) = i by omega]
      · simp [h1, show ¬ i - 8 < 8 by omega, show ¬ i - 8 - 8 < 8 by omega, show i - 8 - 8 - 8 < 8 by omega,
          show 24 + (i - 8 - 8 - 8) = i by omega]

/-- R54, R66: reading a word through its lanes is reading the word. -/
theorem decodeBytes_byteLanes (v : Word) (rest : List Byte) :
    decodeBytes (byteLanes v ++ rest) = (decode v).map fun i => (i, rest) := by
  have h : decodeBytes (byteLanes v ++ rest) =
      match decode (v.extractLsb' 24 8 ++ v.extractLsb' 16 8 ++ v.extractLsb' 8 8 ++ v.extractLsb' 0 8) with
      | .ok i => .ok (i, rest)
      | .error r => .error r := rfl
  rw [h, lanes_append]
  cases decode v <;> rfl

/-! ### Register map -/

/-- R43: every register is found at its own offset. -/
theorem regAt_offset (r : Reg) (off : BitVec 12) (h : r.offset = off.toNat) : regAt off = some r := by
  unfold regAt
  cases r with
  | oamW0 k =>
    have hk := k.isLt
    simp only [Reg.offset] at h
    rw [dif_pos (by omega), if_pos (by omega)]
    congr 2
    apply Fin.ext
    show (off.toNat - 0x100) / 8 = k.val
    omega
  | oamW1 k =>
    have hk := k.isLt
    simp only [Reg.offset] at h
    rw [dif_pos (by omega), if_neg (by omega), if_pos (by omega)]
    congr 2
    apply Fin.ext
    show (off.toNat - 0x100) / 8 = k.val
    omega
  | _ =>
    simp only [Reg.offset] at h
    simp [← h, fixedReg]

/-- R43: a register found at an offset is the register of that offset. -/
theorem offset_regAt {r : Reg} {off : BitVec 12} (h : regAt off = some r) : r.offset = off.toNat := by
  unfold regAt at h
  split at h
  · split at h
    · cases h; simp only [Reg.offset]; omega
    · split at h
      · cases h; simp only [Reg.offset]; omega
      · cases h
  · split at h
    · rename_i h4
      generalize hq : off.toNat / 4 = q at h
      unfold fixedReg at h
      split at h <;> first
        | (cases h; simp only [Reg.offset]; omega)
        | cases h
    · cases h

/-- R43: every register's offset is word-aligned. -/
theorem offset_mod_four (r : Reg) : r.offset % 4 = 0 := by
  cases r <;> simp only [Reg.offset] <;> omega

/-- R43 to R46: an access is performed exactly when its size is 4 and its offset is a register's. -/
theorem accessedReg_eq_some {off : BitVec 12} {size : Nat} {r : Reg} :
    accessedReg off size = some r ↔ size = 4 ∧ r.offset = off.toNat := by
  unfold accessedReg
  constructor
  · intro h
    split at h
    · exact ⟨(by tauto : size = 4), offset_regAt h⟩
    · cases h
  · rintro ⟨rfl, h⟩
    rw [if_pos ⟨rfl, h ▸ offset_mod_four r⟩]
    exact regAt_offset r off h

/-- R44 to R46: an access is refused exactly when its size or its offset is no register's. -/
theorem accessedReg_eq_none {off : BitVec 12} {size : Nat} :
    accessedReg off size = none ↔ size ≠ 4 ∨ ∀ r : Reg, r.offset ≠ off.toNat := by
  rw [Option.eq_none_iff_forall_ne_some]
  constructor
  · intro h
    by_cases hs : size = 4
    · exact .inr fun r hr => h r (accessedReg_eq_some.2 ⟨hs, hr⟩)
    · exact .inl hs
  · rintro (h | h) r hr
    · exact h (accessedReg_eq_some.1 hr).1
    · exact h r (accessedReg_eq_some.1 hr).2

/-! ### One step -/

/-- R8: a configuration that fails is refused. -/
theorem step_badConfig {s : State} (h : s.cfg.wellFormed = false) : step s = .refused .badConfig := by
  simp [step, h]

/-- With nothing to come the step changes nothing. -/
theorem step_nil {s : State} (hc : s.cfg.wellFormed = true) (h : s.inbox = []) : step s = .next s := by
  simp [step, takeNext, hc, h]

/-- R14: a step takes the next event, and the event is consumed. -/
theorem step_cons {s : State} {e : Event} {rest : List Event} (hc : s.cfg.wellFormed = true)
    (h : s.inbox = e :: rest) : step s = takeEvent e (s.setInbox rest) := by
  simp [step, takeNext, hc, h]

/-- If a step answers a next state, its configuration passes R8. -/
theorem wellFormed_of_step {s t : State} (h : step s = .next t) : s.cfg.wellFormed = true := by
  cases hc : s.cfg.wellFormed with
  | true => rfl
  | false => rw [step_badConfig hc] at h; cases h

/-! ### Host accesses -/

/-- R137: the register an access is performed on while RESET is 0. -/
theorem grantedReg_eq {off : BitVec 12} {size : Nat} {s : State} (h : s.resetLine = false) :
    grantedReg off size s = accessedReg off size := by simp [grantedReg, h]

/-- R47: a performed read. -/
theorem readAt_performed {off : BitVec 12} {size : Nat} {s : State} {r : Reg} (h : grantedReg off size s = some r) :
    readAt off size s = .next (s.logBus (.data (readReg r s))) := by simp [readAt, h]

/-- R119: a refused read. -/
theorem readAt_refused {off : BitVec 12} {size : Nat} {s : State} (h : grantedReg off size s = none) :
    readAt off size s = .next (s.logBus .busError) := by simp [readAt, h]

/-- R48 to R53: a performed write. -/
theorem writeAt_performed {off : BitVec 12} {size : Nat} {v : Word} {s : State} {r : Reg}
    (h : grantedReg off size s = some r) : writeAt off size v s = writeReg r v (s.logBus .done) := by
  simp [writeAt, h]

/-- R119: a refused write. -/
theorem writeAt_refused {off : BitVec 12} {size : Nat} {v : Word} {s : State} (h : grantedReg off size s = none) :
    writeAt off size v s = .next (s.logBus .busError) := by simp [writeAt, h]

/-- A host read in the window. -/
theorem hostRead_in_window {a : BusAddr} {off : BitVec 12} {size : Nat} {s : State}
    (h : windowOffset s.cfg.base a = some off) : hostRead a size s = readAt off size s := by simp [hostRead, h]

/-- A host write in the window. -/
theorem hostWrite_in_window {a : BusAddr} {off : BitVec 12} {size : Nat} {v : Word} {s : State}
    (h : windowOffset s.cfg.base a = some off) : hostWrite a size v s = writeAt off size v s := by
  simp [hostWrite, h]

/-! ### Stream engine -/

/-- R109, R122: everything a transport's answer can do. -/
theorem takeAnswer_cases (a : Answer) (s : State) :
    (streaming s = false ∧ takeAnswer a s = s)
    ∨ (streaming s = true ∧ a = .ok ∧ takeAnswer a s = advance (s.logPanel { byte := nextByte s, answer := .ok }))
    ∨ (streaming s = true ∧ ∃ code, a = .err code ∧ takeAnswer a s =
        raiseTransport s.stream.posRow s.stream.posByte code (s.logPanel { byte := nextByte s, answer := .err code })) := by
  unfold takeAnswer
  cases hs : streaming s with
  | false => exact .inl ⟨rfl, by simp⟩
  | true =>
    cases a with
    | ok => exact .inr (.inl ⟨rfl, rfl, rfl⟩)
    | err code => exact .inr (.inr ⟨rfl, code, rfl, rfl⟩)

/-- R109: everything an accepted byte can do to the stream; nothing else changes. -/
theorem advance_cases (s : State) :
    (s.stream.posByte.toNat < 19 ∧ advance s = s.setStream { s.stream with posByte := s.stream.posByte + 1#5 })
    ∨ (19 ≤ s.stream.posByte.toNat ∧ s.stream.posRow.toNat < 167
        ∧ advance s = s.setStream { s.stream with posRow := s.stream.posRow + 1#8, posByte := 0#5 })
    ∨ (19 ≤ s.stream.posByte.toNat ∧ 167 ≤ s.stream.posRow.toNat ∧ advance s = s.setStream Stream.idle) := by
  unfold advance
  by_cases h1 : s.stream.posByte.toNat < 19
  · exact .inl ⟨h1, by simp [h1]⟩
  · by_cases h2 : s.stream.posRow.toNat < 167
    · exact .inr (.inl ⟨by omega, h2, by simp [h1, h2]⟩)
    · exact .inr (.inr ⟨by omega, by omega, by simp [h1, h2, endStream]⟩)

end Sys2Proof.Machine
end

