-- ==== Sys2Proof/Laws/Exec.lean ====
section
/-! SUPPORT. The arms of `exec` as the shared operations they are, and the step on a host access: the lemmas a proof about
a command or about the register window starts from. -/

namespace Sys2Proof.Machine

/-! ### Arms -/

theorem exec_nop (s : State) : exec .nop s = unlessBusy s fun s => .next s := rfl
theorem exec_press (s : State) : exec .press s = unlessBusy s fun s => .next (pressOp s) := rfl
theorem exec_tick (s : State) : exec .tick s = unlessBusy s tickOp := rfl
theorem exec_simInit (s : State) : exec .simInit s = unlessBusy s fun s => .next (initSim s) := rfl
theorem exec_build (s : State) : exec .build s = unlessBusy s buildOp := rfl
theorem exec_compose (s : State) : exec .compose s = unlessBusy s fun s => .next (composeOp s) := rfl
theorem exec_frame (s : State) : exec .frame s = unlessBusy s frameOp := rfl
theorem exec_period (btn : Bool) (s : State) : exec (.period btn) s = unlessBusy s (periodOp btn) := rfl

/-- R49, R120: while a stream runs no command is performed. -/
theorem exec_of_busy {s : State} (h : s.stream.busy = true) (i : Instr) : exec i s = .next (raiseBusyWrite s) := by
  cases i <;>
    simp only [exec_nop, exec_press, exec_tick, exec_simInit, exec_build, exec_compose, exec_frame, exec_period,
      unlessBusy_busy h]

/-- R49: a write to CMD while a stream runs, whatever the word. -/
theorem writeCmd_of_busy {s : State} (h : s.stream.busy = true) (v : Word) :
    writeCmd v s = .next (raiseBusyWrite s) := by
  unfold writeCmd
  split
  · exact exec_of_busy h _
  · exact unlessBusy_busy h _

/-! ### Words -/

/-- R67: OP as a number. -/
theorem opField_toNat (v : Word) : (opField v).toNat = v.toNat % 16 := by
  simp [opField, BitVec.extractLsb'_toNat]

/-- R71: OP as the masked word. -/
theorem opMask_toNat (v : Word) : (v &&& 0x0000000F#32).toNat = v.toNat % 16 := by
  rw [BitVec.toNat_and]
  exact Nat.and_two_pow_sub_one_eq_mod v.toNat 4

/-- R71, R72: what a word is read as depends on OP and BTN alone (R69, R70). -/
theorem decode_congr {v w : Word} (ho : opField v = opField w) (hb : btnField v = btnField w) :
    decode v = decode w := by
  unfold decode
  rw [ho, hb]

/-! ### Host accesses -/

/-- A step whose next event is a 4-byte write in the window. -/
theorem step_write {s : State} {a : BusAddr} {off : BitVec 12} {size : Nat} {v : Word} {rest : List Event}
    (hc : s.cfg.wellFormed = true) (ha : windowOffset s.cfg.base a = some off)
    (h : s.inbox = .write a size v :: rest) : step s = writeAt off size v (s.setInbox rest) := by
  rw [step_cons hc h]
  exact hostWrite_in_window ha

/-- A step whose next event is a read in the window. -/
theorem step_read {s : State} {a : BusAddr} {off : BitVec 12} {size : Nat} {rest : List Event}
    (hc : s.cfg.wellFormed = true) (ha : windowOffset s.cfg.base a = some off)
    (h : s.inbox = .read a size :: rest) : step s = readAt off size (s.setInbox rest) := by
  rw [step_cons hc h]
  exact hostRead_in_window ha

/-- A 4-byte write at a register's offset, RESET being 0. -/
theorem writeAt_reg {s : State} {off : BitVec 12} {v : Word} {r : Reg} (hr : s.resetLine = false)
    (h : r.offset = off.toNat) : writeAt off 4 v s = writeReg r v (s.logBus .done) :=
  writeAt_performed (by rw [grantedReg_eq hr]; exact accessedReg_eq_some.2 ⟨rfl, h⟩)

/-- A 4-byte read at a register's offset, RESET being 0. -/
theorem readAt_reg {s : State} {off : BitVec 12} {r : Reg} (hr : s.resetLine = false)
    (h : r.offset = off.toNat) : readAt off 4 s = .next (s.logBus (.data (readReg r s))) :=
  readAt_performed (by rw [grantedReg_eq hr]; exact accessedReg_eq_some.2 ⟨rfl, h⟩)

/-- R61: a read register does not show what is still to come or was answered before. -/
theorem readReg_setInbox (r : Reg) (s : State) (es : List Event) : readReg r (s.setInbox es) = readReg r s := by
  cases r <;> rfl

/-- R48 to R53: everything a performed write can do when it answers a next state. -/
theorem writeReg_cases {r : Reg} {v : Word} {s t : State} (h : writeReg r v s = .next t) :
    (r = .cmd ∧ writeCmd v s = .next t)
    ∨ (r = .status ∧ t = clearSticky v s)
    ∨ (r = .ctrl ∧ t = writeCtrl v s)
    ∨ ((r = .errinfo ∨ r = .gridLo ∨ r = .gridHi ∨ r = .simstat ∨ r = .tickcnt) ∧ t = s)
    ∨ ((r = .oamCount ∨ (∃ k, r = .oamW0 k) ∨ ∃ k, r = .oamW1 k) ∧ s.stream.busy = true ∧ t = raiseBusyWrite s)
    ∨ (r = .oamCount ∧ s.stream.busy = false ∧ t = writeOamCount v s)
    ∨ (∃ k, r = .oamW0 k ∧ s.stream.busy = false ∧ t = writeOamW0 k v s)
    ∨ (∃ k, r = .oamW1 k ∧ s.stream.busy = false ∧ t = writeOamW1 k v s) := by
  cases r <;> simp only [writeReg] at h
  case cmd => exact .inl ⟨rfl, h⟩
  case status => cases h; simp
  case ctrl => cases h; simp
  case oamCount =>
    obtain ⟨hb, rfl⟩ | ⟨hb, h⟩ := unlessBusy_cases h
    · simp [hb]
    · cases h; simp [hb]
  case oamW0 k =>
    obtain ⟨hb, rfl⟩ | ⟨hb, h⟩ := unlessBusy_cases h
    · simp [hb]
    · cases h; simp [hb]
  case oamW1 k =>
    obtain ⟨hb, rfl⟩ | ⟨hb, h⟩ := unlessBusy_cases h
    · simp [hb]
    · cases h; simp [hb]
  all_goals (cases h; simp)

/-- R14, R44 to R53, R109, R137: everything one event can do when it answers a next state. -/
theorem takeEvent_cases {e : Event} {s t : State} (h : takeEvent e s = .next t) :
    (t = s ∧ ((∃ a size, e = .read a size) ∨ (∃ a size v, e = .write a size v) ∨ ∃ a, e = .lateAnswer a))
    ∨ (∃ r, t = s.logBus r ∧ ((∃ a size, e = .read a size) ∨ ∃ a size v, e = .write a size v))
    ∨ (∃ a v off r, e = .write a 4 v ∧ windowOffset s.cfg.base a = some off ∧ r.offset = off.toNat
        ∧ s.resetLine = false ∧ writeReg r v (s.logBus .done) = .next t)
    ∨ (∃ a, e = .answer a ∧ t = takeAnswer a s)
    ∨ (∃ b, e = .resetLine b ∧ t = driveReset b s) := by
  cases e with
  | read a size =>
    simp only [takeEvent, hostRead] at h
    split at h
    · unfold readAt at h
      split at h <;> (cases h; exact .inr (.inl ⟨_, rfl, .inl ⟨a, size, rfl⟩⟩))
    · cases h; exact .inl ⟨rfl, .inl ⟨a, size, rfl⟩⟩
  | write a size v =>
    simp only [takeEvent, hostWrite] at h
    split at h
    · rename_i off hoff
      unfold writeAt at h
      split at h
      · rename_i r hg
        unfold grantedReg at hg
        split at hg
        · cases hg
        · rename_i hrl
          obtain ⟨rfl, hro⟩ := accessedReg_eq_some.1 hg
          exact .inr (.inr (.inl ⟨a, v, off, r, rfl, hoff, hro, by simpa using hrl, h⟩))
      · cases h; exact .inr (.inl ⟨_, rfl, .inr ⟨a, size, v, rfl⟩⟩)
    · cases h; exact .inl ⟨rfl, .inr (.inl ⟨a, size, v, rfl⟩)⟩
  | answer a => cases h; exact .inr (.inr (.inr (.inl ⟨a, rfl, rfl⟩)))
  | lateAnswer a => cases h; exact .inl ⟨rfl, .inr (.inr ⟨a, rfl⟩)⟩
  | resetLine b => cases h; exact .inr (.inr (.inr (.inr ⟨b, rfl, rfl⟩)))

/-! ### What a command can do -/

/-- R76, R77, R90, R91, R107, R114, R115, R117: if a command answers a next state, BUSY_WRITE was raised or BUSY was 0,
and it wrote nothing but the Simulation, the OAM, PREV, PREV_VALID, BTN_PREV, DRAWN and the stream engine. -/
theorem exec_frame_fields {i : Instr} {s t : State} (h : exec i s = .next t) :
    (s.stream.busy = true ∧ t = raiseBusyWrite s)
    ∨ (s.stream.busy = false
        ∧ t = { s with sim := t.sim, oam := t.oam, prev := t.prev, prevValid := t.prevValid, btnPrev := t.btnPrev,
                       drawn := t.drawn, stream := t.stream }) := by
  cases hb : s.stream.busy with
  | true => rw [exec_of_busy hb] at h; exact .inl ⟨rfl, (Host.Outcome.next.inj h).symm⟩
  | false =>
    refine .inr ⟨rfl, ?_⟩
    have trig : ∀ u : State, triggerOp u =
        { u with prev := (triggerOp u).prev, prevValid := (triggerOp u).prevValid, drawn := (triggerOp u).drawn,
                 stream := (triggerOp u).stream } := by
      intro u
      obtain ⟨-, h⟩ | ⟨-, -, h⟩ := triggerOp_cases u <;> rw [h]
    cases i <;>
      simp only [exec_nop, exec_press, exec_tick, exec_simInit, exec_build, exec_compose, exec_frame, exec_period,
        unlessBusy_idle hb] at h
    case nop => cases h; rfl
    case press => cases h; rfl
    case tick => obtain ⟨m, -, rfl⟩ := tickOp_next h; rfl
    case simInit => cases h; rfl
    case build => obtain ⟨-, rfl⟩ := buildOp_next h; rfl
    case compose => cases h; rfl
    case frame =>
      obtain ⟨u, hu, h⟩ := andThen_eq_next.1 h
      obtain ⟨-, rfl⟩ := buildOp_next hu
      cases h
      rw [trig]
      rfl
    case period btn =>
      obtain ⟨u, hu, h⟩ := andThen_eq_next.1 h
      obtain ⟨m, -, rfl⟩ := tickOp_next hu
      obtain ⟨w, hw, h⟩ := andThen_eq_next.1 h
      obtain ⟨-, rfl⟩ := buildOp_next hw
      cases h
      rw [trig, sampleOp_eq]
      rfl

end Sys2Proof.Machine
end

