-- ==== Sys2Proof/Laws/PerInstr.lean ====
section
/-! SUPPORT. A statement made per instruction: the family CanonicalEncoding. -/

namespace Sys2Proof.Laws.CanonicalEncoding

/-- R67, R70: the instruction is well formed and its encoding sets no ignored bit. -/
def Statement (i : Instr) : Prop := i.wellFormed = true ∧ canonicalWord (encode i) = true

theorem nop : Statement .nop := ⟨rfl, by decide⟩
theorem press : Statement .press := ⟨rfl, by decide⟩
theorem tick : Statement .tick := ⟨rfl, by decide⟩
theorem simInit : Statement .simInit := ⟨rfl, by decide⟩
theorem build : Statement .build := ⟨rfl, by decide⟩
theorem compose : Statement .compose := ⟨rfl, by decide⟩
theorem frame : Statement .frame := ⟨rfl, by decide⟩
theorem period (btn : Bool) : Statement (.period btn) := ⟨rfl, by cases btn <;> decide⟩

end Sys2Proof.Laws.CanonicalEncoding
end

