-- ==== Sys2Proof/Laws/Window.lean ====
section
/-! SUPPORT. The bits of the window's words (Machine/Operands.lean, Machine/Flags.lean). -/

namespace Sys2Proof.Machine

/-- A bit of a field placed in a word. -/
@[simp] theorem getLsbD_field {n : Nat} (v : BitVec n) (lo i : Nat) :
    (field v lo).getLsbD i = (decide (i < 32) && decide (lo ≤ i) && v.getLsbD (i - lo)) := by
  simp only [field, BitVec.getLsbD_shiftLeft, BitVec.getLsbD_setWidth]
  by_cases h1 : i < 32 <;> by_cases h2 : i < lo
  · simp [h1, h2, show ¬ lo ≤ i by omega]
  · simp [h1, h2, show lo ≤ i by omega, show i - lo < 32 by omega]
  · simp [h1]
  · simp [h1]

/-- A bit of a flag placed in a word. -/
@[simp] theorem getLsbD_flag (b : Bool) (k i : Nat) : (flag b k).getLsbD i = (decide (i < 32) && decide (i = k) && b) := by
  simp only [flag, getLsbD_field, BitVec.getLsbD_ofBool]
  by_cases h : i = k
  · subst h; simp
  · by_cases h2 : k ≤ i
    · simp [h, show i - k ≠ 0 by omega]
    · simp [h, h2]

end Sys2Proof.Machine
end

