-- ==== Sys2Proof/Tests/Slice0.lean ====
section
/-! SUPPORT. Named tests: the ill-formed terms each check refuses, the words of spec/30_encoding.md, vectors of
spec/95_test_vectors.md, and for each statement with premises a state and operands that meet them. Expected values are
the spec's own (the vector or rule is named), never the model's answer. -/

namespace Sys2Proof.Tests

open Sys2Proof.Machine

/-! ### Helpers -/

/-- A block for the tests: the spec's vectors take HAS_DISP_LINE = 1 and a second asset `[0xA5, 0x3C]`. -/
def cfgT : Config where
  base := 0x1000
  cmdByte := 0x5A#8
  hasDispLine := true
  tickBits := 32
  rowAddrBase := 0
  assets := [solidSquare, [0xA5#8, 0x3C#8]]
  updatePrevOnError := true
  btnPrevReset := false

/-- That block right after reset. -/
def sT : State := State.resetOf cfgT

/-- That block with a FRAME stream just started. -/
def busyT : State := { sT with stream := startedStream true }

/-- That block with this Simulation. -/
def simT (grid : BitVec 42) (seg : BitVec 6) (len : BitVec 2) (y : BitVec 3) (rising finished : Bool)
    (tickcnt : BitVec 32) : State :=
  { sT with sim := { grid, seg, len, y, rising, finished, tickcnt } }

/-- That block with a FRAME stream at row 5, position 7, and the transport failing there (V-STREAM-3). -/
def failingT : State :=
  { sT with
    prevValid := true, drawn := true, inbox := [.answer (.err 0x42#8)],
    stream := { startedStream true with posRow := 5#8, posByte := 7#5 } }

/-- The next event is a write of `v` at offset `off`. -/
def writing (s : State) (off : BitVec 12) (v : Word) : State := { s with inbox := [.write (.offset off) 4 v] }

/-- A next state that satisfies `p`. -/
def nextIs (o : Result) (p : State → Bool) : Bool :=
  match o with
  | .next s => p s
  | .fault _ => false
  | .refused _ => false

/-- The step answers a next state. -/
def nexts (o : Result) : Bool := nextIs o fun _ => true

/-! ### WellFormed: a term that each check refuses -/

theorem test_width_not_multiple_of_8_refused : geometryOk 145 = false := by decide
theorem test_row_addresses_past_255_refused : { cfgT with rowAddrBase := 89 }.wellFormed = false := by decide
theorem test_tick_bits_2_refused : { cfgT with tickBits := 2 }.wellFormed = false := by decide
theorem test_tick_bits_33_refused : { cfgT with tickBits := 33 }.wellFormed = false := by decide
theorem test_config_accepted : cfgT.wellFormed = true ∧ { cfgT with rowAddrBase := 88, tickBits := 3 }.wellFormed = true := by
  decide
theorem test_reserved_opcode_not_canonical : canonicalWord 0x00000008#32 = false := by decide
theorem test_reserved_bits_not_canonical :
    canonicalWord 0x00000012#32 = false ∧ canonicalWord 0x80000002#32 = false := by decide
theorem test_btn_outside_period_not_canonical : canonicalWord 0x00000102#32 = false := by decide
theorem test_canonical_accepted : canonicalWord 0x00000002#32 = true ∧ canonicalWord 0x00000107#32 = true := by decide

/-! ### Decoding: words written out from R67 and R71 -/

theorem test_decode_nop : decode 0b00000000000000000000000000000000#32 = .ok .nop := by decide
theorem test_decode_press : decode 0b00000000000000000000000000000001#32 = .ok .press := by decide
theorem test_decode_tick : decode 0b00000000000000000000000000000010#32 = .ok .tick := by decide
theorem test_decode_simInit : decode 0b00000000000000000000000000000011#32 = .ok .simInit := by decide
theorem test_decode_build : decode 0b00000000000000000000000000000100#32 = .ok .build := by decide
theorem test_decode_compose : decode 0b00000000000000000000000000000101#32 = .ok .compose := by decide
theorem test_decode_frame : decode 0b00000000000000000000000000000110#32 = .ok .frame := by decide
theorem test_decode_period_low : decode 0b00000000000000000000000000000111#32 = .ok (.period false) := by decide
theorem test_decode_period_high : decode 0b00000000000000000000000100000111#32 = .ok (.period true) := by decide
theorem test_decode_reserved_range :
    decode 0x00000008#32 = .error .reservedOpcode ∧ decode 0x0000010F#32 = .error .reservedOpcode := by decide
theorem test_decodeBytes_lanes :
    decodeBytes [0x07#8, 0x01#8, 0x00#8, 0x00#8, 0xAA#8] = .ok (.period true, [0xAA#8])
    ∧ decodeBytes [0x07#8, 0x01#8, 0x00#8] = .error .truncated := by decide
theorem test_encode_period : encode (.period true) = 0x00000107#32 ∧ encode (.period false) = 0x00000007#32 := by decide
theorem test_decodeTableWord : decodeTableWord 32 0x107 = some (.period true) ∧ decodeTableWord 32 9 = none := by decide

/-! ### The first step after reset -/

theorem test_fetch_tick : nextIs (step (State.reset.withFetchWord 32 0x2)) (fun t => t.sim.tickcnt == 1#32) = true := by
  decide
theorem test_fetch_frame : nextIs (step (State.reset.withFetchWord 32 0x6)) (fun t => statusWord t == 0x39#32) = true := by
  decide

/-! ### One step of each command (spec/95_test_vectors.md) -/

/-- R114, example. -/
theorem test_nop : exec .nop sT = .next sT := rfl
/-- V-PRESS-1. -/
theorem test_press : nextIs (exec .press sT) (fun t => simstatWord t == 0x00010307#32) = true := by decide
/-- V-PRESS-3. -/
theorem test_press_finished :
    nextIs (exec .press (simT 0 0 3 0 false true 0)) (fun t => simstatWord t == 0x00030300#32) = true := by decide
/-- V-TICK-3. -/
theorem test_tick_failed_column : nextIs (exec .tick (simT 0x7 0b001110 3 1 true false 2))
    (fun t => simstatWord t == 0x00002203#32 && gridLoWord t.sim == 0x187#32) = true := by decide
/-- V-TICK-4. -/
theorem test_tick_climbs_then_slides : nextIs (exec .tick (simT 0 0b000111 3 0 true false 7))
    (fun t => simstatWord t == 0x0000130E#32 && t.sim.tickcnt == 8#32) = true := by decide
/-- V-INIT-2. -/
theorem test_simInit : nextIs (exec .simInit (simT 0x18E 0b000011 2 2 true false 10))
    (fun t => simstatWord t == 0x00000307#32 && gridLoWord t.sim == 0#32) = true := by decide
/-- V-BUILD-2, entry 3. -/
theorem test_build : nextIs (exec .build (simT 0x7 0b000111 3 1 false false 1))
    (fun t => t.oam.count == 6#6 && packW0 t.oam.entries[3] == 0x00780000#32
      && packW1 t.oam.entries[3] == 0x00001818#32) = true := by decide
/-- V-BUILD-4: the entries past the count stay. -/
theorem test_build_keeps_later_entries :
    nextIs (exec .build { sT with oam := setEntry sT.oam 9 { DrawObject.zero with x := 7#16, y := 9#16 } })
      (fun t => t.oam.count == 3#6 && packW0 t.oam.entries[9] == 0x00090007#32) = true := by decide
/-- V-STREAM-1. -/
theorem test_compose : nextIs (exec .compose sT) (fun t => statusWord t == 0x09#32) = true := by decide
/-- V-FRAME-1. -/
theorem test_frame : nextIs (exec .frame sT) (fun t => statusWord t == 0x39#32 && t.oam.count == 3#6) = true := by decide
/-- V-PER-1. -/
theorem test_period : nextIs (exec (.period true) sT)
    (fun t => simstatWord t == 0x00041307#32 && statusWord t == 0x39#32 && t.oam.count == 6#6) = true := by decide
/-- R117: no edge, no Press. -/
theorem test_period_low : nextIs (exec (.period false) sT) (fun t => simstatWord t == 0x00000307#32) = true := by decide

/-! ### The compositor and the stream engine -/

/-- V-BLIT-4, column 2. -/
theorem test_contrib_unaligned : contrib cfgT.assets ⟨1, 16, 1, 13, 0⟩ 0 2 = 0x29#8 := by decide
/-- V-BLIT-6, column 17. -/
theorem test_contrib_right_edge : contrib cfgT.assets ⟨1, 16, 1, 140, 0⟩ 0 17 = 0x0A#8 := by decide
/-- V-REV-5, V-REV-9. -/
theorem test_rev8 : rev8 0xA7#8 = 0xE5#8 ∧ rev8 0x12#8 = 0x48#8 := by decide
/-- V-STREAM-3: `err(0x42)` at row 5, position 7. -/
theorem test_transport_error :
    nextIs (step failingT) (fun t => statusWord t == 0x32#32 && errinfoWord t.errinfo == 0x42070501#32) = true := by decide
/-- V-STREAM-4: the same under UPDATE_PREV_ON_ERROR = 0. -/
theorem test_transport_error_drops_prev :
    nextIs (step { failingT with cfg := { cfgT with updatePrevOnError := false } })
      (fun t => statusWord t == 0x22#32) = true := by decide

/-! ### The register window -/

/-- V-REG-1, V-REG-2. -/
theorem test_oam_writes :
    nextIs (step (writing sT 0x104 0x00011A1F#32)) (fun t => readReg (.oamW1 0) t == 0x00011A18#32) = true
    ∧ nextIs (step (writing sT 0x020 100#32)) (fun t => readReg .oamCount t == 48#32) = true := by decide
/-- V-ERR-2 and V-ERR-4. -/
theorem test_reserved_opcode :
    nextIs (step (writing busyT 0 0xF#32)) (fun t => errinfoWord t.errinfo == 2#32) = true
    ∧ nextIs (step (writing sT 0 8#32)) (fun t => errinfoWord t.errinfo == 3#32 && statusWord t == 4#32) = true := by decide
/-- V-ERR-9, and an address past the window. -/
theorem test_bus_error_and_outside :
    nextIs (step { sT with inbox := [.read (.address 0x1004) 2] }) (fun t => t.busLog == [.busError]) = true
    ∧ nextIs (step { sT with inbox := [.read (.address 0x2000) 4] }) (fun t => t.busLog == []) = true := by decide

/-! ### Witnesses: a state and operands that meet the premises of each statement, clause by clause -/

theorem witness_OpcodeMapOnEveryWord :
    0xF0#32 &&& 0xF#32 = 0#32 ∧ 0x11#32 &&& 0xF#32 = 1#32 ∧ 0x12#32 &&& 0xF#32 = 2#32 ∧ 0x13#32 &&& 0xF#32 = 3#32
    ∧ 0x14#32 &&& 0xF#32 = 4#32 ∧ 0x15#32 &&& 0xF#32 = 5#32 ∧ 0x16#32 &&& 0xF#32 = 6#32 ∧ 0x107#32 &&& 0xF#32 = 7#32
    ∧ 8 ≤ (0x8#32 &&& 0xF#32).toNat ∧ 8 ≤ (0xF#32 &&& 0xF#32).toNat := by decide
theorem witness_DecodeAndEncodeAgree :
    (Instr.period true).wellFormed = true ∧ 0x107#32 &&& careMask (.period true) = encode (.period true) := by decide
theorem witness_ReservedBitsIgnored : windowOffset sT.cfg.base (.address 0x1000) = some 0x000#12 := by decide
theorem witness_BtnIgnoredUnlessPeriod :
    windowOffset sT.cfg.base (.offset 0) = some 0x000#12 ∧ 0x2#32 &&& 0xF#32 ≠ 7#32 ∧ 0x107#32 &&& 0xF#32 = 7#32 := by decide
theorem witness_StepRunsDecodedCommand :
    Ready (writing sT 0 2#32) ∧ NextWrite (writing sT 0 2#32) 0x000#12 2#32 [] ∧ Instr.tick.wellFormed = true
    ∧ decode 2#32 = .ok .tick := ⟨by decide, ⟨.offset 0, rfl, rfl⟩, rfl, by decide⟩
theorem witness_EveryCmdWriteHasOneOutcome :
    Ready (writing sT 0 7#32) ∧ NextWrite (writing sT 0 7#32) 0x000#12 7#32 [] ∧ sT.stream.busy = false
    ∧ (7#32 &&& 0xF#32).toNat < 8
    ∧ Ready (writing sT 0 8#32) ∧ NextWrite (writing sT 0 8#32) 0x000#12 8#32 [] ∧ 8 ≤ (8#32 &&& 0xF#32).toNat
    ∧ Ready (writing busyT 0 0xF#32) ∧ NextWrite (writing busyT 0 0xF#32) 0x000#12 0xF#32 []
    ∧ busyT.stream.busy = true :=
  ⟨by decide, ⟨.offset 0, rfl, rfl⟩, rfl, by decide, by decide, ⟨.offset 0, rfl, rfl⟩, by decide, by decide,
    ⟨.offset 0, rfl, rfl⟩, rfl⟩
theorem witness_OnlyBadConfigIsRefused :
    ¬ (width % 8 = 0 ∧ height + 89 ≤ 256 ∧ 3 ≤ 32 ∧ 32 ≤ 32) ∧ ¬ (width % 8 = 0 ∧ height + 0 ≤ 256 ∧ 3 ≤ 2 ∧ 2 ≤ 32) := by
  decide
theorem witness_OnlyAnswersAndResetMoveTheStream :
    sT.cfg.wellFormed = true ∧ sT.inbox = [] ∧ busyT.stream.busy = true
    ∧ nexts (step { busyT with inbox := [.answer .ok] }) = true
    ∧ nexts (step { busyT with inbox := [.write (.offset 0) 4 2#32] }) = true
    ∧ Event.answer .ok ≠ .resetLine true ∧ Event.write (.offset 0) 4 2#32 ≠ .resetLine true := by decide
theorem witness_RefusedAccessIsBusError :
    sT.cfg.wellFormed = true ∧ windowOffset sT.cfg.base (.offset 0x004) = some 0x004#12 ∧ 2 ≠ 4
    ∧ (0x002#12).toNat % 4 ≠ 0 ∧ (∀ r : Reg, r.offset ≠ (0x024#12).toNat) ∧ (∀ r : Reg, r.offset ≠ (0x280#12).toNat) := by
  refine ⟨by decide, by decide, by decide, by decide, ?_, ?_⟩ <;>
    (intro r; cases r <;> simp only [Reg.offset, BitVec.toNat_ofNat] <;> omega)
theorem witness_RegisterMapIsExact :
    (regAt 0x020#12).isSome = true ∧ (0x020#12).toNat ≤ 0x020 ∧ (regAt 0x27C#12).isSome = true ∧ 0x27C ≤ 0x27F
    ∧ regAt 0x024#12 = none ∧ regAt 0x0FC#12 = none ∧ regAt 0x280#12 = none ∧ regAt 0x27E#12 = none := by decide
theorem witness_WindowIsFourKilobytesAtBase :
    sT.cfg.wellFormed = true ∧ sT.cfg.base ≤ 0x1000 ∧ 0x1FFF ≤ sT.cfg.base + 0xFFF ∧ 0xFFF < sT.cfg.base
    ∧ sT.cfg.base + 0xFFF < 0x2000 := by decide
theorem witness_ReadReturnsValueAndChangesNothing :
    Ready sT ∧ windowOffset sT.cfg.base (.address 0x127C) = some 0x27C#12 ∧ (Reg.oamW1 47).offset = (0x27C#12).toNat
    ∧ Reg.cmd.offset = (0x000#12).toNat := by decide
theorem witness_StatusLayout : 6 ≤ 6 ∧ 6 ≤ 31 := by decide
theorem witness_SimulationViews : 0 < 32 ∧ 31 < 32 ∧ 9 < 10 ∧ 10 ≤ 10 := by decide
theorem witness_StatusWriteClearsSticky :
    Ready (writing busyT 4 6#32) ∧ NextWrite (writing busyT 4 6#32) 0x004#12 6#32 [] :=
  ⟨by decide, ⟨.offset 4, rfl, rfl⟩⟩
theorem witness_OamCountClamps :
    Ready (writing sT 0x20 49#32) ∧ sT.stream.busy = false ∧ NextWrite (writing sT 0x20 49#32) 0x020#12 49#32 [] :=
  ⟨by decide, rfl, ⟨.offset 0x20, rfl, rfl⟩⟩
theorem witness_OamWordsStoreFields :
    Ready (writing sT 0x278 5#32) ∧ sT.stream.busy = false
    ∧ NextWrite (writing sT 0x278 5#32) (BitVec.ofNat 12 (0x100 + 8 * (47 : Fin 48).val)) 5#32 []
    ∧ NextWrite (writing sT 0x104 7#32) (BitVec.ofNat 12 (0x104 + 8 * (0 : Fin 48).val)) 7#32 [] :=
  ⟨by decide, rfl, ⟨.offset 0x278, rfl, rfl⟩, ⟨.offset 0x104, rfl, rfl⟩⟩
theorem witness_BusyWriteIsRejected :
    Ready busyT ∧ busyT.stream.busy = true ∧ windowOffset busyT.cfg.base (.address 0x1000) = some 0x000#12
    ∧ Reg.cmd.offset = (0x000#12).toNat ∧ Reg.oamCount.offset = (0x020#12).toNat
    ∧ (Reg.oamW0 47).offset = (0x278#12).toNat ∧ (Reg.oamW1 47).offset = (0x27C#12).toNat
    ∧ Reg.status.offset = (0x004#12).toNat ∧ Reg.ctrl.offset = (0x00C#12).toNat := by decide
theorem witness_CtrlWriteDrivesDisp :
    (Ready (writing sT 0xC 1#32) ∧ NextWrite (writing sT 0xC 1#32) 0x00C#12 1#32 [] ∧ sT.cfg.hasDispLine = true)
    ∧ Ready (writing { sT with cfg := { cfgT with hasDispLine := false } } 0xC 1#32)
    ∧ NextWrite (writing { sT with cfg := { cfgT with hasDispLine := false } } 0xC 1#32) 0x00C#12 1#32 [] :=
  ⟨⟨by decide, ⟨.offset 0xC, rfl, rfl⟩, rfl⟩, by decide, ⟨.offset 0xC, rfl, rfl⟩⟩
theorem witness_ReadOnlyWritesIgnored :
    Ready sT ∧ windowOffset sT.cfg.base (.offset 0x018) = some 0x018#12 ∧ (0x008#12).toNat = 0x008
    ∧ (0x01C#12).toNat = 0x01C ∧ (0x000#12).toNat = 0x000 ∧ (0x004#12).toNat = 0x004 ∧ (0x00C#12).toNat = 0x00C
    ∧ (0x27C#12).toNat = 0x104 + 8 * (47 : Fin 48).val := by decide
theorem witness_HostReachesOnlyTheWindow :
    nextIs (step (writing sT 0 2#32)) (fun t => t.sim != sT.sim) = true
    ∧ nextIs (step { simT 0 0 3 0 false true 0 with inbox := [.resetLine true] }) (fun t => t.sim == sT.sim) = true := by
  decide
theorem witness_PseudoInstructionsAct :
    (Ready sT ∧ sT.stream.busy = false ∧ sT.cfg.hasDispLine = true)
    ∧ writing sT 0 0x107#32 = { sT with inbox := (Line.command (.period true)).expand }
    ∧ writing sT 4 6#32 = { sT with inbox := Line.clrErr.expand }
    ∧ writing sT 0xC 1#32 = { sT with inbox := (Line.disp true).expand }
    ∧ writing sT 0x20 49#32 = { sT with inbox := (Line.setCount 49).expand }
    ∧ Ready { busyT with inbox := Line.waitIdle.expand }
    ∧ Line.waitIdle.expand = [.read (.offset 0x004) 4]
    ∧ (Line.setObj 47 13 5 16 1 1).expand
        = [.write (.offset 0x278) 4 0x0005000D#32, .write (.offset 0x27C) 4 0x00010110#32] :=
  ⟨by decide, rfl, rfl, rfl, rfl, by decide, rfl, by decide⟩
theorem witness_PressSetsRising :
    sT.stream.busy = false ∧ (simT 0 7 3 0 true false 0).sim.rising = true
    ∧ (simT 0x1C7 0 3 0 false true 12).sim.finished = true ∧ busyT.stream.busy = true := by decide
theorem witness_SimInitConstructs : sT.stream.busy = false ∧ busyT.stream.busy = true := by decide
theorem witness_TickWhenFinished :
    (simT 0x1C7 0 3 0 true true 12).stream.busy = false ∧ (simT 0x1C7 0 3 0 true true 12).sim.finished = true
    ∧ (simT 0x1C7 0 3 0 true true 12).sim.rising = true ∧ (simT 0x1C7 0 3 0 false true 12).sim.rising = false := by decide
theorem witness_TickWithoutClimbSlides :
    sT.stream.busy = false ∧ sT.sim.finished = false ∧ sT.sim.rising = false
    ∧ (BitVec.ofNat 32 (nextCount (simT 0 7 3 0 false false 7))).toNat % 8 = 0
    ∧ (BitVec.ofNat 32 (nextCount sT)).toNat % 8 ≠ 0
    ∧ FirstGap 0b000111#6 3 ∧ FirstAfterGap 0b000111#6 3 6
    ∧ (∀ g i : Fin 7, FirstGap 0#6 g.val → ¬ FirstAfterGap 0#6 g.val i.val) := by decide
theorem witness_ClimbingTick :
    (sT.stream.busy = false ∧ sT.cfg.wellFormed = true)
    ∧ (SimInv 32 (simT 0x7 0b001110 3 1 true false 7).sim
        ∧ nextIs (exec .tick (simT 0x7 0b001110 3 1 true false 7)) (fun t => t.sim.len == 2#2) = true)
    ∧ (SimInv 32 (simT 0x7 0b111000 3 1 true false 5).sim
        ∧ nextIs (exec .tick (simT 0x7 0b111000 3 1 true false 5)) (fun t => t.sim.len == 0#2) = true)
    ∧ SimInv 32 (simT 0xFFFFFFFFF 0b000111 3 6 true false 20).sim :=
  ⟨by decide, ⟨by decide, by decide⟩, ⟨by decide, by decide⟩, by decide⟩
theorem witness_SlideRotatesArc :
    sT.stream.busy = false ∧ sT.cfg.wellFormed = true ∧ 1 ≤ (3#2).toNat ∧ ArcFrom 0b100011#6 (3#2).toNat 5
    ∧ ArcFrom 0b000001#6 (1#2).toNat 0 ∧ nextCount (simT 0 0b100011 3 0 false false 7) % 8 = 0 := by decide
theorem witness_PressAffectsOnlyTheNextTick :
    sT.stream.busy = false ∧ sT.btnPrev = false ∧ nexts (exec .tick { sT with sim := pressSim sT.sim }) = true := by decide
theorem witness_GridGainsAndLenFalls :
    (simT 0x7 0b001110 3 1 true false 2).stream.busy = false
    ∧ nextIs (exec .tick (simT 0x7 0b001110 3 1 true false 2)) (fun t => t.sim.len == 2#2) = true
    ∧ ¬ (false = true ∧ true = true) := by decide
theorem witness_PlaythroughFinishesWithinSevenClimbs :
    sT.stream.busy = false ∧ sT.cfg.wellFormed = true ∧ SimInv sT.cfg.tickBits sT.sim ∧ sT.sim.finished = false
    ∧ SimInv 32 (simT 0xFFFFFFFFF 0b000001 1 6 false false 20).sim := by decide
theorem witness_LenUnderflowIsStructuralDefect :
    (∀ m ∈ [simT 0x1F 0b111111 0 1 true false 0, simT 0 0b000001 0 7 true false 0],
      m.stream.busy = false ∧ m.sim.finished = false ∧ m.sim.rising = true ∧ m.sim.len = 0#2)
    ∧ (simT 0x1F 0b111111 0 1 true false 0).sim.seg.getLsbD (5 : Fin 6).val = true
    ∧ attaches (simT 0x1F 0b111111 0 1 true false 0).sim (5 : Fin 6).val = false
    ∧ (simT 0x1F 0b111111 0 1 true false 0).sim.y.toNat ≤ 6
    ∧ (simT 0 0b000001 0 7 true false 0).sim.seg.getLsbD (0 : Fin 6).val = true
    ∧ attaches (simT 0 0b000001 0 7 true false 0).sim (0 : Fin 6).val = false := by decide
theorem witness_BuildEmitsGridThenSegment :
    sT.stream.busy = false ∧ sT.sim.y.toNat ≤ 6 ∧ (simT 0 7 3 6 false false 0).sim.y.toNat ≤ 6 := by decide
theorem witness_BuildNeverOverflowsOam :
    sT.stream.busy = false ∧ nexts (exec .build sT) = true ∧ SimInv sT.cfg.tickBits sT.sim := by decide
theorem witness_FrameEqIsStructural :
    (47 : Fin 48).val < ({ FrameDesc.zero with count := 48#6 } : FrameDesc).count.toNat
    ∧ frameEq { FrameDesc.zero with count := 48#6 } { FrameDesc.zero with count := 48#6 } = true := by decide
theorem witness_AssetReadIsTotal :
    1 < cfgT.assets.length ∧ (cfgT.assets.getD 1 []).length = 2 ∧ cfgT.assets.length ≤ 2 := by decide
theorem witness_ContribIsPixelExact : (16#8).toNat % 8 = 0 ∧ 0 < 8 ∧ 7 < 8 := by decide
theorem witness_ComposedByteIsInvertedOr :
    (contrib cfgT.assets ⟨1, 16, 1, 0, 0⟩ 0 0).getLsbD 7 = true
    ∧ (16#8).toNat % 8 = 0 ∧ (∀ j : Fin 8, covers ⟨1, 16, 1, 0, 0⟩ (2 * 8 + j.val) 0 = false) := by decide
theorem witness_ComposeIgnoresOrderAndRepeats :
    ∀ o : DrawObject, o ∈ [objSeg 0 0, objSeg 0 1] ↔ o ∈ [objSeg 0 1, objSeg 0 0, objSeg 0 1] := by
  intro o; simp only [List.mem_cons, List.not_mem_nil, or_false]; tauto
theorem witness_AlignedObjectReproducesAsset :
    cfgT.assets[1]? = some [0xA5#8, 0x3C#8] ∧ (128#16).toNat % 8 = 0 ∧ (16#8).toNat % 8 = 0
    ∧ (128#16).toNat + (16#8).toNat ≤ 144 ∧ (167#16).toNat + (1#8).toNat ≤ 168
    ∧ (1#8).toNat * (16#8).toNat / 8 ≤ [0xA5#8, 0x3C#8].length ∧ 128 / 8 ≤ 17 ∧ 17 < (128 + 16) / 8 := by decide
theorem witness_BuilderFrameBytes :
    nexts (exec .build { sT with cfg := { cfgT with assets := [List.replicate 72 0xFF#8] } }) = true
    ∧ covers (objSeg 0 0) (0 * 8) 144 = true ∧ covers (objSeg 0 0) (0 * 8) 143 = false := by decide
theorem witness_Rev8ReversesBits : 0 < 8 ∧ 7 < 8 := by decide
theorem witness_FrameStreamLayout : 0 < 168 ∧ 167 < 168 ∧ 0 < 20 ∧ 1 < 20 ∧ 19 < 20 := by decide
theorem witness_ComposeStartsStream :
    sT.stream.busy = false ∧ busyT.stream.busy = true ∧ sT.oam.count = 0#6 ∧ 2 ≤ 19 ∧ 167 < 168 ∧ 17 < 18
    ∧ 144 ≤ (144#16).toNat ∧ 168 ≤ (168#16).toNat ∧ DrawObject.zero.h = 0#8 ∧ DrawObject.zero.w = 0#8 := by decide
theorem witness_StreamStepOffersOneByte :
    (Ready { busyT with inbox := [.answer .ok] } ∧ Ready failingT) ∧ busyT.stream.busy = true
    ∧ failingT.stream.busy = true ∧ failingT.inbox = [.answer (.err 0x42#8)] ∧ (18#5).toNat < 19 ∧ 19 ≤ (19#5).toNat
    ∧ (166#8).toNat < 167 ∧ 167 ≤ (167#8).toNat ∧ failingT.stream.fromFrame = true
    ∧ ({ cfgT with updatePrevOnError := false } : Config).updatePrevOnError = false := by decide
theorem witness_WholeFrameIsSent :
    Ready { busyT with inbox := List.replicate 3360 (Event.answer .ok) ++ [] } ∧ busyT.stream = startedStream true
    ∧ ({ busyT with inbox := List.replicate 3360 (Event.answer .ok) ++ [] } : State).inbox
        = List.replicate 3360 (Event.answer .ok) ++ [] :=
  ⟨⟨by decide, rfl⟩, rfl, rfl⟩
theorem witness_NopDoesNothing : sT.stream.busy = false ∧ busyT.stream.busy = true := by decide
theorem witness_FrameDrawsOnlyOnChange :
    sT.stream.busy = false ∧ sT.sim.y.toNat ≤ 6 ∧ sT.prevValid = false
    ∧ frameEq (loadObjects (builtObjects sT.sim) sT.oam) { FrameDesc.zero with count := 3#6 } = false
    ∧ frameEq (loadObjects (builtObjects sT.sim) sT.oam) (loadObjects (builtObjects sT.sim) sT.oam) = true := by decide
theorem witness_SecondFrameIsSuppressed : sT.stream = Stream.idle ∧ nexts (exec .frame sT) = true := by decide
theorem witness_PeriodPressesTicksAndFrames :
    sT.stream.busy = false ∧ busyT.stream.busy = true ∧ sT.cfg.wellFormed = true ∧ SimInv sT.cfg.tickBits sT.sim
    ∧ SimInv 32 (simT 0xFFFFFFFFF 0b000111 3 6 false false 20).sim := by decide
theorem witness_EveryCommandCompletes : Inv sT ∧ sT.stream.busy = false := ⟨by decide, rfl⟩
theorem witness_InvariantStatesNeverStop : Inv sT ∧ Inv busyT ∧ Inv (simT 0x7 0b001110 3 1 true false 2) ∧ Inv (enterReset busyT) :=
  ⟨by decide, by decide, by decide, by decide⟩
theorem witness_ErrorRecordIsSticky :
    nextIs (step (writing { busyT with cerr := true } 4 4#32)) (fun t => t.cerr == false) = true
    ∧ nextIs (step (writing busyT 0 2#32)) (fun t => t.errinfo != busyT.errinfo) = true
    ∧ nextIs (step { busyT with inbox := [.answer (.err 0)] }) (fun t => t.errinfo != busyT.errinfo) = true := by decide
theorem witness_ResetHoldsTheBlock :
    busyT.cfg.wellFormed = true ∧ nexts (step { busyT with inbox := [.resetLine true] }) = true
    ∧ (enterReset busyT).resetLine = true ∧ windowOffset cfgT.base (.offset 0xFFF) = some 0xFFF#12 := by decide
theorem witness_InvariantHoldsAtReset : cfgT.wellFormed = true := by decide
theorem witness_EveryStepKeepsInvariant :
    Inv (writing sT 0 0x107#32) ∧ nexts (step (writing sT 0 0x107#32)) = true := by decide

end Sys2Proof.Tests
end

section
/-! The scope of the model (R8): a bad configuration is the only thing a step refuses. The sequencing operations pass on
a refusal of their parts and make none, no command and no window access makes one, and so no event does. -/

namespace Sys2Proof.Machine

/-- The outcome is a next state or a fault: the model gives the operation a meaning. -/
def NotRefused (o : Result) : Prop := ∀ r, o ≠ .refused r

/-! ### Sequencing -/

@[simp] theorem notRefused_next (s : State) : NotRefused (.next s) := fun _ h => nomatch h
@[simp] theorem notRefused_fault (f : Fault) : NotRefused (.fault f) := fun _ h => nomatch h

theorem notRefused_andThen {o : Result} {f : State → Result} (ho : NotRefused o) (hf : ∀ s, NotRefused (f s)) :
    NotRefused (andThen o f) := by
  cases o with
  | next s => exact hf s
  | fault d => exact notRefused_fault d
  | refused r => exact absurd rfl (ho r)

theorem notRefused_unlessBusy (s : State) {f : State → Result} (hf : ∀ s, NotRefused (f s)) :
    NotRefused (unlessBusy s f) := by
  cases hb : s.stream.busy with
  | true => rw [unlessBusy_busy hb]; exact notRefused_next _
  | false => rw [unlessBusy_idle hb]; exact hf s

/-! ### Commands -/

/-- R123: TICK stops with a structural defect alone. -/
theorem notRefused_tickOp (s : State) : NotRefused (tickOp s) := by
  obtain ⟨m, -, he⟩ | ⟨d, -, he⟩ := tickOp_cases s <;> simp [he]

/-- R123: BUILD stops with a structural defect alone. -/
theorem notRefused_buildOp (s : State) : NotRefused (buildOp s) := by
  unfold buildOp
  cases buildFrame s.sim s.oam with
  | ok d => exact notRefused_next _
  | error e => exact notRefused_fault _

theorem notRefused_frameOp (s : State) : NotRefused (frameOp s) :=
  notRefused_andThen (notRefused_buildOp s) fun u => notRefused_next (triggerOp u)

theorem notRefused_periodOp (btn : Bool) (s : State) : NotRefused (periodOp btn s) :=
  notRefused_andThen (notRefused_tickOp (sampleOp btn s)) notRefused_frameOp

/-- R71: every command has a meaning. -/
theorem notRefused_exec (i : Instr) (s : State) : NotRefused (exec i s) := by
  cases i with
  | nop => exact notRefused_unlessBusy s notRefused_next
  | press => exact notRefused_unlessBusy s fun u => notRefused_next (pressOp u)
  | tick => exact notRefused_unlessBusy s notRefused_tickOp
  | simInit => exact notRefused_unlessBusy s fun u => notRefused_next (initSim u)
  | build => exact notRefused_unlessBusy s notRefused_buildOp
  | compose => exact notRefused_unlessBusy s fun u => notRefused_next (composeOp u)
  | frame => exact notRefused_unlessBusy s notRefused_frameOp
  | period btn => exact notRefused_unlessBusy s (notRefused_periodOp btn)

/-! ### The register window -/

/-- R49, R72: every word has a meaning when it is written to CMD. -/
theorem notRefused_writeCmd (v : Word) (s : State) : NotRefused (writeCmd v s) := by
  unfold writeCmd
  cases decode v with
  | ok i => exact notRefused_exec i s
  | error e => exact notRefused_unlessBusy s fun u => notRefused_next (raiseReservedOpcode u)

theorem notRefused_writeReg (r : Reg) (v : Word) (s : State) : NotRefused (writeReg r v s) := by
  cases r with
  | cmd => exact notRefused_writeCmd v s
  | oamCount => exact notRefused_unlessBusy s fun u => notRefused_next (writeOamCount v u)
  | oamW0 k => exact notRefused_unlessBusy s fun u => notRefused_next (writeOamW0 k v u)
  | oamW1 k => exact notRefused_unlessBusy s fun u => notRefused_next (writeOamW1 k v u)
  | _ => exact notRefused_next _

/-- R119: a read that is not performed ends in a bus error, which is a next state. -/
theorem notRefused_readAt (off : BitVec 12) (size : Nat) (s : State) : NotRefused (readAt off size s) := by
  cases h : grantedReg off size s with
  | none => rw [readAt_refused h]; exact notRefused_next _
  | some r => rw [readAt_performed h]; exact notRefused_next _

/-- R119: a write that is not performed ends in a bus error, which is a next state. -/
theorem notRefused_writeAt (off : BitVec 12) (size : Nat) (v : Word) (s : State) :
    NotRefused (writeAt off size v s) := by
  cases h : grantedReg off size s with
  | none => rw [writeAt_refused h]; exact notRefused_next _
  | some r => rw [writeAt_performed h]; exact notRefused_writeReg r v _

theorem notRefused_hostRead (a : BusAddr) (size : Nat) (s : State) : NotRefused (hostRead a size s) := by
  unfold hostRead
  split
  · exact notRefused_readAt _ size s
  · exact notRefused_next s

theorem notRefused_hostWrite (a : BusAddr) (size : Nat) (v : Word) (s : State) :
    NotRefused (hostWrite a size v s) := by
  unfold hostWrite
  split
  · exact notRefused_writeAt _ size v s
  · exact notRefused_next s

/-! ### One step -/

/-- R14: every event has a meaning. -/
theorem notRefused_takeEvent (e : Event) (s : State) : NotRefused (takeEvent e s) := by
  cases e with
  | read a size => exact notRefused_hostRead a size s
  | write a size v => exact notRefused_hostWrite a size v s
  | answer a => exact notRefused_next _
  | lateAnswer a => exact notRefused_next s
  | resetLine b => exact notRefused_next _

/-- A block whose configuration passes R8 is never refused, whatever the outside world does next. -/
theorem notRefused_step {s : State} (hc : s.cfg.wellFormed = true) : NotRefused (step s) := by
  cases h : s.inbox with
  | nil => rw [step_nil hc h]; exact notRefused_next s
  | cons e rest => rw [step_cons hc h]; exact notRefused_takeEvent e _

/-- R8: the checks, as propositions. -/
theorem wellFormed_iff (c : Config) : c.wellFormed = true ↔
    width % 8 = 0 ∧ height + c.rowAddrBase ≤ 256 ∧ 3 ≤ c.tickBits ∧ c.tickBits ≤ 32 := by
  simp only [Config.wellFormed, geometryOk, Bool.and_eq_true, beq_iff_eq, decide_eq_true_eq, and_assoc]

/-- R8: what a step refuses, and with what. -/
theorem step_refused_iff (s : State) (r : Refusal) :
    step s = .refused r ↔ r = .badConfig ∧ ¬ s.cfg.wellFormed = true := by
  constructor
  · intro h
    have hc : ¬ s.cfg.wellFormed = true := fun hc => notRefused_step hc r h
    rw [step_badConfig (Bool.eq_false_iff.2 hc)] at h
    exact ⟨(Host.Outcome.refused.inj h).symm, hc⟩
  · rintro ⟨rfl, hc⟩
    exact step_badConfig (Bool.eq_false_iff.2 hc)

/-- Settles O8: a configuration that passes R8 gives every event a meaning, and one that fails is refused before any
event is taken. -/
theorem onlyBadConfigIsRefused : Obligations.OnlyBadConfigIsRefused := by
  intro s r
  rw [← wellFormed_iff]
  exact step_refused_iff s r

end Sys2Proof.Machine
end

section
/-! The OAM words (R39) as concatenations of their fields, from which their layout and what they read back after a
write (R53) follow; the clamp of OAM_COUNT (R38); the entries of a descriptor. -/

namespace Sys2Proof.Machine

/-! ### Fields placed in a word -/

/-- A concatenation placed in a word is its two parts placed side by side. -/
theorem field_append {m n : Nat} (x : BitVec m) (y : BitVec n) (lo : Nat) :
    field (x ++ y) lo = field x (lo + n) ||| field y lo := by
  apply BitVec.eq_of_getLsbD_eq
  intro i _
  simp only [BitVec.getLsbD_or, getLsbD_field, BitVec.getLsbD_append]
  by_cases hlo : lo ≤ i
  · by_cases hy : i - lo < n
    · simp [hlo, hy, show ¬ lo + n ≤ i by omega]
    · have hyi : y.getLsbD (i - lo) = false := BitVec.getLsbD_of_ge _ _ (by omega)
      simp [hlo, hy, hyi, show lo + n ≤ i by omega, Nat.sub_sub]
  · simp [hlo, show ¬ lo + n ≤ i by omega]

/-- A whole word placed at bit 0 is the word. -/
theorem field_word (v : Word) : field v 0 = v := by simp [field]

/-- A 0 placed in a word adds nothing to it. -/
theorem field_zero (n lo : Nat) : field (0#n) lo = 0#32 := by simp [field]

/-- A flag at 0 adds nothing to a word. -/
theorem flag_false (i : Nat) : flag false i = 0#32 := field_zero 1 i

/-! ### OAM_W0 and OAM_W1 -/

/-- R39: Y above X. -/
theorem packW0_eq_append (o : DrawObject) : packW0 o = o.y ++ o.x := by
  calc packW0 o = field o.y (0 + 16) ||| field o.x 0 := BitVec.or_comm ..
    _ = field (o.y ++ o.x) 0 := (field_append ..).symm
    _ = o.y ++ o.x := field_word _

/-- R39: from the top, 8 zeros, ASSET, H and W. -/
theorem packW1_eq_append (o : DrawObject) : packW1 o = 0#8 ++ o.asset ++ o.h ++ o.w := by
  have hparts : field (0#8 ++ o.asset ++ o.h ++ o.w) 0 = field o.asset 16 ||| field o.h 8 ||| field o.w 0 := by
    rw [field_append, field_append, field_append, field_zero, BitVec.zero_or]
  calc packW1 o = field o.asset 16 ||| (field o.w 0 ||| field o.h 8) := BitVec.or_comm ..
    _ = field o.asset 16 ||| field o.h 8 ||| field o.w 0 := by rw [BitVec.or_comm (field o.w 0), BitVec.or_assoc]
    _ = 0#8 ++ o.asset ++ o.h ++ o.w := hparts.symm.trans (field_word _)

/-- R39: where OAM_W0 shows X and Y. -/
theorem packW0_layout (o : DrawObject) :
    (packW0 o).extractLsb' 0 16 = o.x ∧ (packW0 o).extractLsb' 16 16 = o.y := by
  rw [packW0_eq_append]
  exact ⟨BitVec.extractLsb'_append_eq_right, BitVec.extractLsb'_append_eq_left⟩

/-- R39: where OAM_W1 shows W, H and ASSET, and that its top byte is 0. -/
theorem packW1_layout (o : DrawObject) :
    (packW1 o).extractLsb' 0 8 = o.w ∧ (packW1 o).extractLsb' 8 8 = o.h
    ∧ (packW1 o).extractLsb' 16 8 = o.asset ∧ (packW1 o).extractLsb' 24 8 = 0#8 := by
  rw [packW1_eq_append]
  have hup {m : Nat} (x : BitVec m) (y : Byte) (i : Nat) : (x ++ y).extractLsb' (i + 8) 8 = x.extractLsb' i 8 :=
    BitVec.extractLsb'_append_eq_of_le (Nat.le_add_left 8 i)
  refine ⟨BitVec.extractLsb'_append_eq_right, ?_, ?_, ?_⟩
  · exact (hup _ o.w 0).trans BitVec.extractLsb'_append_eq_right
  · exact (hup _ o.w 8).trans <| (hup _ o.h 0).trans BitVec.extractLsb'_append_eq_right
  · exact (hup _ o.w 16).trans <| (hup _ o.h 8).trans BitVec.extractLsb'_append_eq_left

/-- R39, R53: OAM_W0 reads back the whole word written. -/
theorem packW0_unpackW0 (v : Word) (o : DrawObject) : packW0 (unpackW0 v o) = v :=
  (packW0_eq_append _).trans (BitVec.extractLsb'_append_extractLsb' (w := 16) (len := 16))

/-- R39, R53: OAM_W1 reads back the word written, its top byte and the low three bits of W hardwired 0. -/
theorem packW1_unpackW1 (v : Word) (o : DrawObject) : packW1 (unpackW1 v o) = v &&& 0x00FFFFF8#32 := by
  have hmask : 0x00FFFFF8#32 = 0x00#8 ++ 0xFF#8 ++ 0xFF#8 ++ 0xF8#8 := by decide
  have hones (b : Byte) : b &&& 0xFF#8 = b := BitVec.and_allOnes
  conv_rhs => rw [← lanes_append v, hmask, BitVec.and_append, BitVec.and_append, BitVec.and_append]
  rw [packW1_eq_append, hones, hones, BitVec.and_zero]
  rfl

/-- R39: a write to OAM_W1 leaves what OAM_W0 shows, X and Y. -/
theorem packW0_unpackW1 (v : Word) (o : DrawObject) : packW0 (unpackW1 v o) = packW0 o := rfl

/-- R39: a write to OAM_W0 leaves what OAM_W1 shows, W, H and ASSET. -/
theorem packW1_unpackW0 (v : Word) (o : DrawObject) : packW1 (unpackW0 v o) = packW1 o := rfl

/-! ### OAM_COUNT -/

/-- R38: the count stored by a write of `v` is `min(v, 48)`. -/
theorem clampCount_eq (v : Word) : clampCount v = BitVec.ofNat 6 (min v.toNat 48) := by
  unfold clampCount
  split
  · next h => rw [Nat.min_eq_right (by omega)]
  · next h =>
    rw [Nat.min_eq_left (by omega)]
    rfl

/-- R38: 48 fits the six bits of the count. -/
theorem clampCount_toNat (v : Word) : (clampCount v).toNat = min v.toNat 48 := by
  rw [clampCount_eq, BitVec.toNat_ofNat]
  exact Nat.mod_eq_of_lt (by omega)

/-- R38: OAM_COUNT shows the count in bits 5:0 and 0 above. -/
theorem oamCountWord_eq (d : FrameDesc) : oamCountWord d = d.count.setWidth 32 := BitVec.shiftLeft_zero ..

/-! ### The entries of a descriptor -/

theorem setEntry_entry_same (d : FrameDesc) (k : Fin 48) (o : DrawObject) : (setEntry d k o).entries[k] = o :=
  Vector.getElem_set_self k.isLt

theorem setEntry_entry_other (d : FrameDesc) {j k : Fin 48} (o : DrawObject) (h : j ≠ k) :
    (setEntry d k o).entries[j] = d.entries[j] :=
  Vector.getElem_set_ne k.isLt j.isLt fun hkj => h (Fin.ext hkj.symm)

/-- R26: every entry of the descriptor after reset has its fields 0. -/
theorem zero_entry (k : Fin 48) : FrameDesc.zero.entries[k] = DrawObject.zero := Vector.getElem_replicate k.isLt

end Sys2Proof.Machine
end

section
/-! What the next 4-byte write does while no stream runs (R48 to R53), and what a read shows once the OAM changed. -/

namespace Sys2Proof.Machine

/-- R61: a read register shows neither what is still to come nor how an access was answered. -/
theorem readReg_responded (r : Reg) (s : State) (rest : List Event) (b : BusResponse) :
    readReg r (responded s rest b) = readReg r s := by cases r <;> rfl

/-- A step whose next event is a 4-byte write at a register's offset: the write is answered and performed. -/
theorem step_nextWrite {s : State} {off : BitVec 12} {v : Word} {rest : List Event} {r : Reg} (hs : Ready s)
    (h : NextWrite s off v rest) (hr : r.offset = off.toNat) : step s = writeReg r v (responded s rest .done) := by
  obtain ⟨hc, hl⟩ := hs
  obtain ⟨a, hin, ha⟩ := h
  rw [step_write hc ha hin]
  exact writeAt_reg hl hr

/-- R43: the offset of OAM_W0[k] lies in the window. -/
theorem offset_oamW0 (k : Fin 48) : (Reg.oamW0 k).offset = (BitVec.ofNat 12 (0x100 + 8 * k.val)).toNat := by
  rw [BitVec.toNat_ofNat, Reg.offset]
  omega

/-- R43: the offset of OAM_W1[k] lies in the window. -/
theorem offset_oamW1 (k : Fin 48) : (Reg.oamW1 k).offset = (BitVec.ofNat 12 (0x104 + 8 * k.val)).toNat := by
  rw [BitVec.toNat_ofNat, Reg.offset]
  omega

/-- R53: while no stream runs a write to OAM_COUNT is performed. -/
theorem writeReg_oamCount {s : State} (hb : s.stream.busy = false) (v : Word) :
    writeReg .oamCount v s = .next (writeOamCount v s) := by rw [writeReg, unlessBusy_idle hb]

/-- R53: while no stream runs a write to OAM_W0[k] is performed. -/
theorem writeReg_oamW0 {s : State} (hb : s.stream.busy = false) (k : Fin 48) (v : Word) :
    writeReg (.oamW0 k) v s = .next (writeOamW0 k v s) := by rw [writeReg, unlessBusy_idle hb]

/-- R53: while no stream runs a write to OAM_W1[k] is performed. -/
theorem writeReg_oamW1 {s : State} (hb : s.stream.busy = false) (k : Fin 48) (v : Word) :
    writeReg (.oamW1 k) v s = .next (writeOamW1 k v s) := by rw [writeReg, unlessBusy_idle hb]

/-- R39: once entry `k` is replaced, its own two words show the new object, and every other register reads as before. -/
theorem readReg_setEntry (s : State) (k : Fin 48) (o : DrawObject) (r : Reg) :
    readReg r (s.setOam (setEntry s.oam k o)) =
      if r = .oamW0 k then packW0 o else if r = .oamW1 k then packW1 o else readReg r s := by
  cases r with
  | oamW0 j =>
    by_cases h : j = k
    · subst h
      rw [if_pos rfl]
      exact congrArg packW0 (setEntry_entry_same s.oam j o)
    · rw [if_neg (h ∘ Reg.oamW0.inj), if_neg nofun]
      exact congrArg packW0 (setEntry_entry_other s.oam o h)
  | oamW1 j =>
    by_cases h : j = k
    · subst h
      rw [if_neg nofun, if_pos rfl]
      exact congrArg packW1 (setEntry_entry_same s.oam j o)
    · rw [if_neg nofun, if_neg (h ∘ Reg.oamW1.inj)]
      exact congrArg packW1 (setEntry_entry_other s.oam o h)
  | _ => rfl

/-- R39, R53: after a write to OAM_W0[k] that word shows the value written, and every other register reads as before. -/
theorem readReg_writeOamW0 (s : State) (k : Fin 48) (v : Word) (r : Reg) :
    readReg r (writeOamW0 k v s) = if r = .oamW0 k then v else readReg r s := by
  rw [writeOamW0, readReg_setEntry, packW0_unpackW0, packW1_unpackW0]
  split
  · rfl
  · split
    · next h => rw [h]; rfl
    · rfl

/-- R39, R53: after a write to OAM_W1[k] that word shows the value written but for its hardwired zeros, and every other
register reads as before. -/
theorem readReg_writeOamW1 (s : State) (k : Fin 48) (v : Word) (r : Reg) :
    readReg r (writeOamW1 k v s) = if r = .oamW1 k then v &&& 0x00FFFFF8#32 else readReg r s := by
  rw [writeOamW1, readReg_setEntry, packW1_unpackW1, packW0_unpackW1]
  split
  · next h => subst h; rfl
  · rfl

end Sys2Proof.Machine
end

section
/-! The state in the window (10_state.md): the OAM registers and the reset table. -/

namespace Sys2Proof.Machine

/-- R41: the words of an OAM entry read 0 after reset. -/
theorem readReg_oam_resetOf (c : Config) (k : Fin 48) :
    readReg (.oamW0 k) (State.resetOf c) = 0#32 ∧ readReg (.oamW1 k) (State.resetOf c) = 0#32 :=
  ⟨congrArg packW0 (zero_entry k), congrArg packW1 (zero_entry k)⟩

/-- R39: where the fields of an entry stand in its two words. -/
theorem oamWords_layout (s : State) (k : Fin 48) :
    (readReg (.oamW0 k) s).extractLsb' 0 16 = s.oam.entries[k].x
    ∧ (readReg (.oamW0 k) s).extractLsb' 16 16 = s.oam.entries[k].y
    ∧ (readReg (.oamW1 k) s).extractLsb' 0 8 = s.oam.entries[k].w
    ∧ (readReg (.oamW1 k) s).extractLsb' 8 8 = s.oam.entries[k].h
    ∧ (readReg (.oamW1 k) s).extractLsb' 16 8 = s.oam.entries[k].asset
    ∧ (readReg (.oamW1 k) s).extractLsb' 24 8 = 0#8 := by
  obtain ⟨hw, hh, ha, hz⟩ := packW1_layout s.oam.entries[k]
  exact ⟨(packW0_layout _).1, (packW0_layout _).2, hw, hh, ha, hz⟩

/-- Settles O18: the write reaches `writeOamCount`, whose clamp is the minimum. -/
theorem oamCountClamps : Obligations.OamCountClamps := by
  refine ⟨fun s => ⟨oamCountWord_eq s.oam, rfl⟩, fun s v rest hs hb hw => ?_⟩
  have hstep : step s = .next (writeOamCount v (responded s rest .done)) :=
    (step_nextWrite (r := .oamCount) hs hw rfl).trans (writeReg_oamCount (s := responded s rest .done) hb v)
  have hcount : (writeOamCount v (responded s rest .done)).oam.count.toNat = min v.toNat 48 := clampCount_toNat v
  refine ⟨_, hstep, ?_, hcount, ?_⟩
  · rw [← clampCount_eq]; rfl
  · rw [readReg, oamCountWord_eq, BitVec.toNat_setWidth, hcount]
    exact Nat.mod_eq_of_lt (by omega)

/-- Settles O19: the two words hold the fields of their entry side by side, and a write to one of them replaces that
entry alone. -/
theorem oamWordsStoreFields : Obligations.OamWordsStoreFields := by
  refine ⟨fun s k => ?_, fun s v rest k hs hb => ⟨fun hw => ?_, fun hw => ?_⟩⟩
  · obtain ⟨hx, hy, hwd, hh, ha, hz⟩ := oamWords_layout s k
    obtain ⟨h0, h1⟩ := readReg_oam_resetOf s.cfg k
    exact ⟨hx, hy, hwd, hh, ha, hz, h0, h1⟩
  · have hstep : step s = .next (writeOamW0 k v (responded s rest .done)) :=
      (step_nextWrite hs hw (offset_oamW0 k)).trans (writeReg_oamW0 (s := responded s rest .done) hb k v)
    refine ⟨_, hstep, rfl, setEntry_entry_same _ k _, ?_, fun r hr => ?_⟩
    · rw [readReg_writeOamW0, if_pos rfl]
    · rw [readReg_writeOamW0, if_neg hr, readReg_responded]
  · have hstep : step s = .next (writeOamW1 k v (responded s rest .done)) :=
      (step_nextWrite hs hw (offset_oamW1 k)).trans (writeReg_oamW1 (s := responded s rest .done) hb k v)
    refine ⟨_, hstep, rfl, setEntry_entry_same _ k _, ?_, fun r hr => ?_⟩
    · rw [readReg_writeOamW1, if_pos rfl]
    · rw [readReg_writeOamW1, if_neg hr, readReg_responded]

/-- R34, R41: DISP is not driven to 1 after reset, whether or not the block has the line. -/
theorem dispLevel_resetOf (c : Config) : dispLevel (State.resetOf c) = false := Bool.and_false c.hasDispLine

/-- R40: DISP shows the level of DISP_EN where the line exists, and nothing otherwise. -/
theorem dispOutput_eq_some_true (s : State) : dispOutput s = some true → dispLevel s = true := by
  unfold dispOutput
  split
  · exact Option.some.inj
  · exact fun h => nomatch h

/-- Settles O55, row by row of R41. -/
theorem resetTable : Obligations.ResetTable := by
  intro c
  have hstatus : readReg .status (State.resetOf c) = 0#32 := by
    simp [readReg, statusWord, State.resetOf, flag_false]
  have hcs : (readReg .status (State.resetOf c)).getLsbD 3 = false := by rw [hstatus, BitVec.getLsbD_zero]
  have herr : readReg .errinfo (State.resetOf c) = 0#32 := by
    simp [readReg, errinfoWord, State.resetOf, ErrInfo.zero, causeCode, field_zero]
  have hctrl : readReg .ctrl (State.resetOf c) = 0#32 := by rw [readReg, ctrlWord, dispLevel_resetOf, flag_false]
  have hdisp : dispOutput (State.resetOf c) ≠ some true := fun h => by
    simpa [dispLevel_resetOf c] using dispOutput_eq_some_true _ h
  exact ⟨rfl, rfl, zero_entry, rfl, rfl, rfl, rfl, rfl, rfl, hcs, rfl, rfl, herr, hctrl, hdisp, rfl⟩

end Sys2Proof.Machine
end

section
/-! The host's accesses to the window, one by one (R44 to R53): which are refused, what a word written to CMD leads to,
what STATUS and CTRL take from the word written, and which bits of a written word a register drops. -/

namespace Sys2Proof.Machine

/-! ### Refused accesses -/

/-- R44 to R46, R119: no register is accessed with another size than 4, misaligned, or at an offset that is none's. -/
theorem grantedReg_of_refused {off : BitVec 12} {size : Nat} (s : State)
    (h : size ≠ 4 ∨ off.toNat % 4 ≠ 0 ∨ ∀ r : Reg, r.offset ≠ off.toNat) : grantedReg off size s = none := by
  cases hr : s.resetLine with
  | true => simp [grantedReg, hr]
  | false =>
    rw [grantedReg_eq hr, accessedReg_eq_none]
    obtain hsize | halign | hmap := h
    · exact .inl hsize
    · exact .inr fun r hoff => halign (hoff ▸ offset_mod_four r)
    · exact .inr hmap

/-- Settles O10: no register is granted, so the access ends in a bus error. -/
theorem refusedAccessIsBusError : Obligations.RefusedAccessIsBusError := by
  intro s a off size v rest hc ha h
  have hnone := grantedReg_of_refused (s.setInbox rest) h
  constructor
  · exact (step_read (s := { s with inbox := .read a size :: rest }) hc ha rfl).trans (readAt_refused hnone)
  · exact (step_write (s := { s with inbox := .write a size v :: rest }) hc ha rfl).trans (writeAt_refused hnone)

/-! ### CMD -/

/-- R71: every OP below 8 names a command. -/
theorem decode_of_operation {v : Word} (h : (opField v).toNat < 8) : ∃ i, decode v = .ok i := by
  unfold decode
  generalize (opField v).toNat = op at h
  interval_cases op <;> exact ⟨_, rfl⟩

/-- R72: every OP of 8 or more is reserved. -/
theorem decode_of_reserved {v : Word} (h : 8 ≤ (opField v).toNat) : decode v = .error .reservedOpcode := by
  unfold decode
  split
  case h_9 => rfl
  all_goals omega

/-- R66: with a word that names a command, a write to CMD performs it. -/
theorem writeCmd_of_ok {v : Word} {i : Instr} (h : decode v = .ok i) (s : State) : writeCmd v s = exec i s := by
  rw [writeCmd, h]

/-- R72, R121: with a word that names none, while no stream runs, a write to CMD records RESERVED_OPCODE. -/
theorem writeCmd_of_error {v : Word} {e : Reject} {s : State} (h : decode v = .error e)
    (hb : s.stream.busy = false) : writeCmd v s = .next (raiseReservedOpcode s) := by
  rw [writeCmd, h]
  exact unlessBusy_idle hb _

/-- Settles O7: BUSY decides first, then whether OP names a command. -/
theorem everyCmdWriteHasOneOutcome : Obligations.EveryCmdWriteHasOneOutcome := by
  intro s v rest hs hw
  have hstep : step s = writeCmd v (responded s rest .done) := step_nextWrite (r := .cmd) hs hw rfl
  rw [hstep, opMask_toNat, ← opField_toNat]
  refine ⟨fun hb => ⟨.done, ?_⟩, fun _ hop => ?_, fun hb hop => ⟨.done, ?_⟩⟩
  · exact writeCmd_of_busy (s := responded s rest .done) hb v
  · obtain ⟨i, hi⟩ := decode_of_operation hop
    exact ⟨i, hi, writeCmd_of_ok hi _⟩
  · exact writeCmd_of_error (s := responded s rest .done) (decode_of_reserved hop) hb

/-! ### STATUS -/

/-- Settles O15: the write reaches `clearSticky`, in which BUSY takes no part. -/
theorem statusWriteClearsSticky : Obligations.StatusWriteClearsSticky := fun _ _ _ hs hw =>
  (step_nextWrite (r := .status) hs hw rfl).trans (congrArg _ (clearSticky_eq _ _))

/-! ### CTRL -/

/-- R52: where the display-enable line exists, a write to CTRL sets DISP_EN. -/
theorem writeCtrl_of_line {s : State} (h : s.cfg.hasDispLine = true) (v : Word) :
    writeCtrl v s = { s with dispEn := v.getLsbD 0 } := if_pos h

/-- R52: without the line it is ignored. -/
theorem writeCtrl_of_no_line {s : State} (h : s.cfg.hasDispLine = false) (v : Word) : writeCtrl v s = s :=
  if_neg (Bool.eq_false_iff.1 h)

/-- R40: with the line, its level is DISP_EN, and DISP shows it. -/
theorem disp_of_line {s : State} (h : s.cfg.hasDispLine = true) :
    dispLevel s = s.dispEn ∧ dispOutput s = some s.dispEn := by
  have hlevel : dispLevel s = s.dispEn := by rw [dispLevel, h, Bool.true_and]
  exact ⟨hlevel, by rw [dispOutput, if_pos h, hlevel]⟩

/-- R40: without the line the level is 0, and there is no DISP. -/
theorem disp_of_no_line {s : State} (h : s.cfg.hasDispLine = false) :
    dispLevel s = false ∧ dispOutput s = none :=
  ⟨by rw [dispLevel, h, Bool.false_and], if_neg (Bool.eq_false_iff.1 h)⟩

/-- Bit 0 of a word as a flag is the word with every other bit 0. -/
theorem flag_getLsbD_zero (v : Word) : flag (v.getLsbD 0) 0 = v &&& 1#32 := by
  rw [BitVec.and_one_eq_setWidth_ofBool_getLsbD]
  exact BitVec.shiftLeft_zero _

/-- Settles O21: with the line the write sets DISP_EN, which CTRL and DISP show; without it nothing shows DISP_EN. -/
theorem ctrlWriteDrivesDisp : Obligations.CtrlWriteDrivesDisp := by
  intro s v rest hs hw
  have hstep : step s = .next (writeCtrl v (responded s rest .done)) := step_nextWrite (r := .ctrl) hs hw rfl
  rw [hstep]
  constructor
  · intro hline
    have hlevel : dispLevel { responded s rest .done with dispEn := v.getLsbD 0 } = v.getLsbD 0
        ∧ dispOutput { responded s rest .done with dispEn := v.getLsbD 0 } = some (v.getLsbD 0) := disp_of_line hline
    refine ⟨_, congrArg _ (writeCtrl_of_line (s := responded s rest .done) hline v), rfl, ?_, hlevel.2⟩
    rw [readReg, ctrlWord, hlevel.1, flag_getLsbD_zero]
  · intro hline
    obtain ⟨hlevel, hout⟩ := disp_of_no_line hline
    refine ⟨congrArg _ (writeCtrl_of_no_line (s := responded s rest .done) hline v), ?_, hout⟩
    rw [readReg, ctrlWord, hlevel, flag_false]

/-! ### Bits of a written word that a register drops -/

/-- R67, R70: bits 7:4 and 31:9 of a command word take no part. -/
theorem decode_and_mask (v : Word) : decode (v &&& 0x0000010F#32) = decode v := by
  refine decode_congr ?_ ?_
  · have hmask : (0x0000010F#32).extractLsb' 0 4 = BitVec.allOnes 4 := by decide
    rw [opField, BitVec.extractLsb'_and, hmask, BitVec.and_allOnes, opField]
  · have hmask : (0x0000010F#32).getLsbD 8 = true := by decide
    rw [btnField, BitVec.getLsbD_and, hmask, Bool.and_true, btnField]

/-- R70: a write to CMD drops the reserved bits. -/
theorem writeCmd_and_mask (v : Word) (s : State) : writeCmd (v &&& 0x0000010F#32) s = writeCmd v s := by
  rw [writeCmd, decode_and_mask, writeCmd]

/-- R32, R51: a write to STATUS reads bits 1 and 2 of the word. -/
theorem clearSticky_and_mask (v : Word) (s : State) : clearSticky (v &&& 0x00000006#32) s = clearSticky v s := by
  have hterr : (0x00000006#32).getLsbD 1 = true := by decide
  have hcerr : (0x00000006#32).getLsbD 2 = true := by decide
  rw [clearSticky_eq, clearSticky_eq, BitVec.getLsbD_and, BitVec.getLsbD_and, hterr, hcerr, Bool.and_true,
    Bool.and_true]

/-- R34, R52: a write to CTRL reads bit 0 of the word. -/
theorem writeCtrl_and_mask (v : Word) (s : State) : writeCtrl (v &&& 0x00000001#32) s = writeCtrl v s := by
  have hdisp : (0x00000001#32).getLsbD 0 = true := by decide
  rw [writeCtrl, BitVec.getLsbD_and, hdisp, Bool.and_true, writeCtrl]

/-- R39: a write to OAM_W1 drops the top byte of the word. -/
theorem unpackW1_and_mask (v : Word) (o : DrawObject) : unpackW1 (v &&& 0x00FFFFFF#32) o = unpackW1 v o := by
  have h0 : (0x00FFFFFF#32).extractLsb' 0 8 = BitVec.allOnes 8 := by decide
  have h8 : (0x00FFFFFF#32).extractLsb' 8 8 = BitVec.allOnes 8 := by decide
  have h16 : (0x00FFFFFF#32).extractLsb' 16 8 = BitVec.allOnes 8 := by decide
  simp only [unpackW1, BitVec.extractLsb'_and, h0, h8, h16, BitVec.and_allOnes]

/-- R53: so does the write as a whole, whether or not a stream runs. -/
theorem writeReg_oamW1_and_mask (k : Fin 48) (v : Word) (s : State) :
    writeReg (.oamW1 k) (v &&& 0x00FFFFFF#32) s = writeReg (.oamW1 k) v s := by
  simp only [writeReg, writeOamW1, unpackW1_and_mask]

/-- R48 to R53: the step that takes a 4-byte write at a register's offset, whatever else is still to come. -/
theorem step_write_first {s : State} {a : BusAddr} {off : BitVec 12} {rest : List Event} {r : Reg} (hs : Ready s)
    (ha : windowOffset s.cfg.base a = some off) (hr : r.offset = off.toNat) (v : Word) :
    step { s with inbox := .write a 4 v :: rest } = writeReg r v (responded s rest .done) :=
  step_nextWrite (s := { s with inbox := .write a 4 v :: rest }) hs ⟨a, rfl, ha⟩ hr

/-- R48: two words that a register takes alike are the same step. -/
theorem step_write_congr {s : State} {a : BusAddr} {off : BitVec 12} {v w : Word} {rest : List Event} {r : Reg}
    (hs : Ready s) (ha : windowOffset s.cfg.base a = some off) (hr : r.offset = off.toNat)
    (h : ∀ u, writeReg r w u = writeReg r v u) :
    step { s with inbox := .write a 4 v :: rest } = step { s with inbox := .write a 4 w :: rest } := by
  rw [step_write_first hs ha hr, step_write_first hs ha hr, h]

/-- R48: the registers of the five read-only offsets keep the state whatever is written. -/
theorem writeReg_readOnly {off : BitVec 12}
    (h : off.toNat = 0x008 ∨ off.toNat = 0x010 ∨ off.toNat = 0x014 ∨ off.toNat = 0x018 ∨ off.toNat = 0x01C) :
    ∃ r : Reg, r.offset = off.toNat ∧ ∀ v s, writeReg r v s = .next s := by
  obtain h | h | h | h | h := h
  · exact ⟨.errinfo, h.symm, fun _ _ => rfl⟩
  · exact ⟨.gridLo, h.symm, fun _ _ => rfl⟩
  · exact ⟨.gridHi, h.symm, fun _ _ => rfl⟩
  · exact ⟨.simstat, h.symm, fun _ _ => rfl⟩
  · exact ⟨.tickcnt, h.symm, fun _ _ => rfl⟩

/-- Settles O22: a read-only register keeps the state, and each other register drops its reserved bits. -/
theorem readOnlyWritesIgnored : Obligations.ReadOnlyWritesIgnored := by
  intro s a off v rest hs ha
  refine ⟨fun hoff => ?_, fun hoff => ?_, fun hoff => ?_, fun hoff => ?_, fun k hoff => ?_⟩
  · obtain ⟨r, hr, hkeep⟩ := writeReg_readOnly hoff
    rw [step_write_first hs ha hr, hkeep]
  · exact step_write_congr (r := .cmd) hs ha hoff.symm (writeCmd_and_mask v)
  · exact step_write_congr (r := .status) hs ha hoff.symm fun u => congrArg _ (clearSticky_and_mask v u)
  · exact step_write_congr (r := .ctrl) hs ha hoff.symm fun u => congrArg _ (writeCtrl_and_mask v u)
  · exact step_write_congr (r := .oamW1 k) hs ha hoff.symm (writeReg_oamW1_and_mask k v)

end Sys2Proof.Machine
end

section
/-! What each agent can reach (R55): which parts of the state a command, another write, a transport answer and the RESET
input may change, and so what the host can change or see without a command. -/

namespace Sys2Proof.Machine

/-! ### Commands -/

/-- R55: a command keeps the configuration. -/
theorem exec_cfg {i : Instr} {s t : State} (h : exec i s = .next t) : t.cfg = s.cfg := by
  obtain ⟨-, rfl⟩ | ⟨-, hframe⟩ := exec_frame_fields h
  · rfl
  · exact (congrArg State.cfg hframe).trans rfl

/-- R120: an operation that keeps the Simulation keeps it under the BUSY check too. -/
theorem unlessBusy_sim {f : State → Result} {s t : State} (hf : ∀ u, f s = .next u → u.sim = s.sim)
    (h : unlessBusy s f = .next t) : t.sim = s.sim := by
  obtain ⟨-, rfl⟩ | ⟨-, hop⟩ := unlessBusy_cases h
  · rfl
  · exact hf t hop

/-- R91: BUILD keeps the Simulation. -/
theorem buildOp_sim {s t : State} (h : buildOp s = .next t) : t.sim = s.sim := by
  obtain ⟨-, rfl⟩ := buildOp_next h
  rfl

/-- R115: the render trigger keeps the Simulation. -/
theorem triggerOp_sim (s : State) : (triggerOp s).sim = s.sim := by
  obtain ⟨-, h⟩ | ⟨-, -, h⟩ := triggerOp_cases s <;> rw [h]

/-- R91, R115: FRAME keeps the Simulation. -/
theorem frameOp_sim {s t : State} (h : frameOp s = .next t) : t.sim = s.sim := by
  obtain ⟨u, hbuild, htrigger⟩ := andThen_eq_next.1 h
  cases htrigger
  exact (triggerOp_sim u).trans (buildOp_sim hbuild)

/-- R55: the commands that may change the Simulation are PRESS, TICK, SIM_INIT and PERIOD. -/
theorem exec_sim {i : Instr} {s t : State} (h : exec i s = .next t) (hsim : t.sim ≠ s.sim) :
    i = .press ∨ i = .tick ∨ i = .simInit ∨ ∃ b, i = .period b := by
  cases i with
  | press => exact .inl rfl
  | tick => exact .inr (.inl rfl)
  | simInit => exact .inr (.inr (.inl rfl))
  | period b => exact .inr (.inr (.inr ⟨b, rfl⟩))
  | nop => exact absurd (unlessBusy_sim (fun _ hop => by cases hop; rfl) ((exec_nop s).symm.trans h)) hsim
  | build => exact absurd (unlessBusy_sim (fun _ hop => buildOp_sim hop) ((exec_build s).symm.trans h)) hsim
  | compose => exact absurd (unlessBusy_sim (fun _ hop => by cases hop; rfl) ((exec_compose s).symm.trans h)) hsim
  | frame => exact absurd (unlessBusy_sim (fun _ hop => frameOp_sim hop) ((exec_frame s).symm.trans h)) hsim

/-- R49: everything a write to CMD can do when it answers a next state: a command, or an error record. -/
theorem writeCmd_cases {v : Word} {s t : State} (h : writeCmd v s = .next t) :
    (∃ i, decode v = .ok i ∧ exec i s = .next t) ∨ t = { s with cerr := t.cerr, errinfo := t.errinfo } := by
  unfold writeCmd at h
  split at h
  · next i hi => exact .inl ⟨i, hi, h⟩
  · obtain ⟨-, rfl⟩ | ⟨-, hop⟩ := unlessBusy_cases h
    · exact .inr rfl
    · cases hop; exact .inr rfl

/-- R55: a write to CMD keeps the configuration. -/
theorem writeCmd_cfg {v : Word} {s t : State} (h : writeCmd v s = .next t) : t.cfg = s.cfg := by
  obtain ⟨i, -, hexec⟩ | hrecord := writeCmd_cases h
  · exact exec_cfg hexec
  · exact (congrArg State.cfg hrecord).trans rfl

/-! ### The other agents -/

/-- R48, R51 to R53: what a write to a register other than CMD may change. -/
theorem writeReg_frame {r : Reg} {v : Word} {s t : State} (hr : r ≠ .cmd) (h : writeReg r v s = .next t) :
    t = { s with oam := t.oam, terr := t.terr, cerr := t.cerr, errinfo := t.errinfo, dispEn := t.dispEn } := by
  obtain ⟨rfl, -⟩ | ⟨-, rfl⟩ | ⟨-, rfl⟩ | ⟨-, rfl⟩ | ⟨-, -, rfl⟩ | ⟨-, -, rfl⟩ | ⟨k, -, -, rfl⟩ | ⟨k, -, -, rfl⟩ :=
    writeReg_cases h
  · exact absurd rfl hr
  · rfl
  · unfold writeCtrl
    split <;> rfl
  · rfl
  · rfl
  · rfl
  · rfl
  · rfl

/-- R109, R122: what a transport's answer may change. -/
theorem takeAnswer_frame (a : Answer) (s : State) :
    takeAnswer a s = { s with
      prevValid := (takeAnswer a s).prevValid, stream := (takeAnswer a s).stream, terr := (takeAnswer a s).terr,
      errinfo := (takeAnswer a s).errinfo, panelLog := (takeAnswer a s).panelLog } := by
  obtain ⟨-, h⟩ | ⟨-, -, h⟩ | ⟨-, code, -, h⟩ := takeAnswer_cases a s
  · rw [h]
  · obtain ⟨-, hadv⟩ | ⟨-, -, hadv⟩ | ⟨-, -, hadv⟩ :=
      advance_cases (s.logPanel { byte := nextByte s, answer := .ok }) <;>
    (rw [h, hadv]; rfl)
  · rw [h, raiseTransport_eq]
    rfl

/-- R55: what an event can reach: reset everything but the configuration, a write to CMD what its word says, a
transport's answer the stream engine with the error record, and any other access the OAM, CTRL and the error record. -/
theorem takeEvent_reach {e : Event} {s t : State} (h : takeEvent e s = .next t) :
    (e = .resetLine true ∧ t = enterReset s)
    ∨ (∃ a v, e = .write a 4 v ∧ windowOffset s.cfg.base a = some 0x000#12 ∧ writeCmd v (s.logBus .done) = .next t)
    ∨ (∃ a, e = .answer a ∧ t = takeAnswer a s)
    ∨ t = { s with
        oam := t.oam, terr := t.terr, cerr := t.cerr, errinfo := t.errinfo, dispEn := t.dispEn,
        resetLine := t.resetLine, busLog := t.busLog } := by
  obtain ⟨rfl, -⟩ | ⟨r, rfl, -⟩ | ⟨a, v, off, r, he, ha, hoff, -, hw⟩ | ⟨a, he, rfl⟩ | ⟨b, he, rfl⟩ := takeEvent_cases h
  · exact .inr (.inr (.inr rfl))
  · exact .inr (.inr (.inr rfl))
  · by_cases hr : r = .cmd
    · subst hr
      have hzero : off = 0x000#12 := BitVec.eq_of_toNat_eq hoff.symm
      exact .inr (.inl ⟨a, v, he, hzero ▸ ha, hw⟩)
    · have hframe := writeReg_frame hr hw
      refine .inr (.inr (.inr ?_))
      rw [hframe]
      rfl
  · exact .inr (.inr (.inl ⟨a, he, rfl⟩))
  · cases b with
    | true => exact .inl ⟨he, rfl⟩
    | false => exact .inr (.inr (.inr rfl))

/-- A step that answers a next state takes its next event. -/
theorem takeEvent_of_step {s t : State} {e : Event} {rest : List Event} (hin : s.inbox = e :: rest)
    (h : step s = .next t) : takeEvent e (s.setInbox rest) = .next t := by
  rw [← h, step_cons (wellFormed_of_step h) hin]

/-! ### One step -/

/-- R7: no step changes the configuration. -/
theorem step_cfg {s t : State} (h : step s = .next t) : t.cfg = s.cfg := by
  cases hin : s.inbox with
  | nil =>
    rw [step_nil (wellFormed_of_step h) hin] at h
    cases h
    rfl
  | cons e rest =>
    obtain ⟨-, rfl⟩ | ⟨a, v, -, -, hcmd⟩ | ⟨a, -, rfl⟩ | hframe := takeEvent_reach (takeEvent_of_step hin h)
    · rfl
    · exact (writeCmd_cfg hcmd).trans rfl
    · exact (congrArg State.cfg (takeAnswer_frame a _)).trans rfl
    · exact (congrArg State.cfg hframe).trans rfl

/-- R55: outside reset, only a command that acts on the Simulation changes it. -/
theorem step_sim {s t : State} {e : Event} {rest : List Event} (hin : s.inbox = e :: rest) (h : step s = .next t)
    (hsim : t.sim ≠ s.sim) :
    e = .resetLine true ∨
    ∃ a v i, e = .write a 4 v ∧ windowOffset s.cfg.base a = some 0x000#12 ∧ decode v = .ok i
      ∧ (i = .press ∨ i = .tick ∨ i = .simInit ∨ ∃ b, i = .period b) := by
  obtain ⟨he, -⟩ | ⟨a, v, he, ha, hcmd⟩ | ⟨a, -, rfl⟩ | hframe := takeEvent_reach (takeEvent_of_step hin h)
  · exact .inl he
  · obtain ⟨i, hi, hexec⟩ | hrecord := writeCmd_cases hcmd
    · exact .inr ⟨a, v, i, he, ha, hi, exec_sim hexec hsim⟩
    · exact absurd (congrArg State.sim hrecord) hsim
  · exact absurd (congrArg State.sim (takeAnswer_frame a _)) hsim
  · exact absurd (congrArg State.sim hframe) hsim

/-- R55: outside reset, only a transport's answer or a command changes PREV or the stream engine. -/
theorem step_prev_stream {s t : State} {e : Event} {rest : List Event} (hin : s.inbox = e :: rest)
    (h : step s = .next t) (hne : t.prev ≠ s.prev ∨ t.stream ≠ s.stream) :
    e = .resetLine true ∨ (∃ ans, e = .answer ans) ∨
    ∃ a v, e = .write a 4 v ∧ windowOffset s.cfg.base a = some 0x000#12 := by
  obtain ⟨he, -⟩ | ⟨a, v, he, ha, -⟩ | ⟨a, he, -⟩ | hframe := takeEvent_reach (takeEvent_of_step hin h)
  · exact .inl he
  · exact .inr (.inr ⟨a, v, he, ha⟩)
  · exact .inr (.inl ⟨a, he⟩)
  · obtain hprev | hstream := hne
    · exact absurd (congrArg State.prev hframe) hprev
    · exact absurd (congrArg State.stream hframe) hstream

/-- R55: no register shows the asset ROM, PREV, POS_ROW, POS_BYTE or FROM_FRAME. -/
theorem readReg_hidden (s : State) (r : Reg) (assets : List (List Byte)) (p : FrameDesc) (row : BitVec 8)
    (byte : BitVec 5) (ff : Bool) :
    readReg r { s with
      cfg := { s.cfg with assets := assets }, prev := p,
      stream := { s.stream with posRow := row, posByte := byte, fromFrame := ff } } = readReg r s := by
  cases r <;> rfl

/-- Settles O23, from what each event can reach. -/
theorem hostReachesOnlyTheWindow : Obligations.HostReachesOnlyTheWindow :=
  ⟨readReg_hidden, fun _ _ => step_cfg, fun _ _ _ _ => step_sim, fun _ _ _ _ => step_prev_stream⟩

end Sys2Proof.Machine
end

section
/-! Reads of the asset ROM (R58). -/

namespace Sys2Proof.Machine

/-- R58: a read of an asset that exists, past its end included. -/
theorem assetRead_of_lt {assets : List (List Byte)} {a : Nat} (ha : a < assets.length) (i : Nat) :
    assetRead assets a i = assets[a].getD i 0#8 := by
  rw [assetRead, List.getElem?_eq_getElem ha]

/-- R58: a read of an asset that does not exist. -/
theorem assetRead_of_ge {assets : List (List Byte)} {a : Nat} (ha : assets.length ≤ a) (i : Nat) :
    assetRead assets a i = 0#8 := by
  rw [assetRead, List.getElem?_eq_none ha]

/-- Settles O39: the asset exists and holds the byte, or it exists and ends before it, or it does not exist. -/
theorem assetReadIsTotal : Obligations.AssetReadIsTotal := by
  refine fun assets a i => ⟨fun ha hi => ?_, fun ha hi => ?_, fun ha => assetRead_of_ge ha i⟩
  · rw [assetRead_of_lt ha, List.getD_eq_getElem _ _ hi]
  · rw [assetRead_of_lt ha, List.getD_eq_default _ _ hi]

end Sys2Proof.Machine
end

section
/-! The command word (R66 to R73): what each OP is read as, which bits of the word are left unread, and that two words
read alike are the same write to CMD in every state, RESET at 1 and a bad configuration included. -/

namespace Sys2Proof.Machine

/-! ### OP -/

/-- R67: OP keeps its value when every other bit of the word is set to 0. -/
theorem opField_opMask (v : Word) : opField (v &&& 0x0000000F#32) = opField v := by
  have hmask : (0x0000000F#32).extractLsb' 0 4 = BitVec.allOnes 4 := by decide
  rw [opField, BitVec.extractLsb'_and, hmask, BitVec.and_allOnes, opField]

/-- R67, R71: OP and the masked word are the same number. -/
theorem opField_toNat_eq_opMask (v : Word) : (opField v).toNat = (v &&& 0x0000000F#32).toNat := by
  rw [opField_toNat, opMask_toNat]

/-- R69, R71: with OP 7 the word is PERIOD, at the level of BTN. -/
theorem decode_of_opMask_eq_seven {v : Word} (h : v &&& 0x0000000F#32 = 7#32) :
    decode v = .ok (.period (v.getLsbD 8)) := by
  have hop : (opField v).toNat = 7 := by rw [opField_toNat_eq_opMask, h]; rfl
  rw [decode, hop]
  rfl

/-- R69, R70: with any other OP nothing but OP is read, reserved opcodes included. -/
theorem decode_opMask {v : Word} (h : v &&& 0x0000000F#32 ≠ 7#32) : decode (v &&& 0x0000000F#32) = decode v := by
  have hop : (opField v).toNat ≠ 7 := fun h7 =>
    h (BitVec.eq_of_toNat_eq ((opField_toNat_eq_opMask v).symm.trans h7))
  rw [decode, decode, opField_opMask]
  split
  case h_8 h7 => exact absurd h7 hop
  all_goals rfl

/-- R71: with an OP other than 7, the word is read as the word of OP alone. -/
theorem decode_of_opMask_eq {v op : Word} (h : v &&& 0x0000000F#32 = op) (hop : op ≠ 7#32) : decode v = decode op := by
  subst h
  exact (decode_opMask hop).symm

/-- Settles O2: PERIOD and the reserved range have their own lemmas, and every other OP is read as the word of OP
alone. -/
theorem opcodeMapOnEveryWord : Obligations.OpcodeMapOnEveryWord := by
  intro v
  refine ⟨fun h => ?nop, fun h => ?press, fun h => ?tick, fun h => ?simInit, fun h => ?build, fun h => ?compose,
    fun h => ?frame, decode_of_opMask_eq_seven, fun h => ?reserved⟩
  case reserved => exact decode_of_reserved ((opField_toNat_eq_opMask v).symm ▸ h)
  all_goals exact (decode_of_opMask_eq h (by decide)).trans rfl

/-! ### Words read alike -/

/-- R49: a write to CMD does with a word what it is read as. -/
theorem writeCmd_congr {v w : Word} (h : decode v = decode w) (s : State) : writeCmd v s = writeCmd w s := by
  rw [writeCmd, h, writeCmd]

/-- R49, R137: two words read alike are the same access at CMD's offset; while RESET is 1 neither is performed. -/
theorem writeAt_cmd_congr {v w : Word} (h : decode v = decode w) (s : State) :
    writeAt 0x000#12 4 v s = writeAt 0x000#12 4 w s := by
  cases hr : s.resetLine with
  | true =>
    have hnone : grantedReg 0x000#12 4 s = none := by rw [grantedReg, if_pos hr]
    rw [writeAt_refused hnone, writeAt_refused hnone]
  | false =>
    rw [writeAt_reg (r := .cmd) hr rfl, writeAt_reg (r := .cmd) hr rfl]
    exact writeCmd_congr h _

/-- R49: two words read alike are the same step when the host writes them to CMD, whatever the state. -/
theorem step_cmdWrite_congr {s : State} {v w : Word} {a : BusAddr} (rest : List Event)
    (ha : windowOffset s.cfg.base a = some 0x000#12) (h : decode v = decode w) :
    step { s with inbox := .write a 4 v :: rest } = step { s with inbox := .write a 4 w :: rest } := by
  cases hc : s.cfg.wellFormed with
  | true =>
    have hstep : ∀ u, step { s with inbox := .write a 4 u :: rest } = writeAt 0x000#12 4 u (s.setInbox rest) :=
      fun u => step_write (s := { s with inbox := .write a 4 u :: rest }) hc ha rfl
    rw [hstep, hstep, writeAt_cmd_congr h]
  | false =>
    have hstep : ∀ u, step { s with inbox := .write a 4 u :: rest } = .refused .badConfig :=
      fun u => step_badConfig (s := { s with inbox := .write a 4 u :: rest }) hc
    rw [hstep, hstep]

/-- Settles O4: a word and the same word without its reserved bits are read alike. -/
theorem reservedBitsIgnored : Obligations.ReservedBitsIgnored := fun _ v rest _ ha =>
  step_cmdWrite_congr rest ha (decode_and_mask v).symm

/-! ### BTN -/

/-- R67: BTN at 1 is outside OP. -/
theorem opMask_setBtn (v : Word) : (v ||| 0x00000100#32) &&& 0x0000000F#32 = v &&& 0x0000000F#32 := by
  have hdisjoint : 0x00000100#32 &&& 0x0000000F#32 = 0#32 := by decide
  rw [BitVec.and_or_distrib_right, hdisjoint, BitVec.or_zero]

/-- R67: so is BTN at 0. -/
theorem opMask_clearBtn (v : Word) : (v &&& 0xFFFFFEFF#32) &&& 0x0000000F#32 = v &&& 0x0000000F#32 := by
  have hkeep : 0xFFFFFEFF#32 &&& 0x0000000F#32 = 0x0000000F#32 := by decide
  rw [BitVec.and_assoc, hkeep]

/-- R69: with an OP other than 7, a word is read alike with BTN 1 and with BTN 0. -/
theorem decode_setBtn_eq_clearBtn {v : Word} (h : v &&& 0x0000000F#32 ≠ 7#32) :
    decode (v ||| 0x00000100#32) = decode (v &&& 0xFFFFFEFF#32) :=
  (decode_of_opMask_eq (opMask_setBtn v) h).trans (decode_of_opMask_eq (opMask_clearBtn v) h).symm

/-- Settles O5: PERIOD reads BTN, and without OP 7 the words with BTN 1 and with BTN 0 are read alike. -/
theorem btnIgnoredUnlessPeriod : Obligations.BtnIgnoredUnlessPeriod :=
  ⟨fun _ => decode_of_opMask_eq_seven, fun _ _ rest _ ha hop =>
    step_cmdWrite_congr rest ha (decode_setBtn_eq_clearBtn hop)⟩

end Sys2Proof.Machine
end

section
/-! The Simulation commands on the whole state (R76, R78, R90): what PRESS, SIM_INIT and TICK answer while no stream
runs, TICK from the answer of the Simulation, and the TICK that starts finished. -/

namespace Sys2Proof.Machine

/-! ### While a stream runs -/

/-- R49, R120: every command is turned away, whichever it is. -/
theorem exec_eq_busyRejected {s : State} (hb : s.stream.busy = true) (i : Instr) :
    exec i s = .next (busyRejected s) :=
  exec_of_busy hb i

/-! ### While no stream runs -/

theorem exec_press_idle {s : State} (hb : s.stream.busy = false) :
    exec .press s = .next { s with sim := pressSim s.sim } :=
  (exec_press s).trans (unlessBusy_idle hb _)

theorem exec_simInit_idle {s : State} (hb : s.stream.busy = false) :
    exec .simInit s = .next { s with sim := Sim.init } :=
  (exec_simInit s).trans (unlessBusy_idle hb _)

theorem exec_tick_idle {s : State} (hb : s.stream.busy = false) : exec .tick s = tickOp s :=
  (exec_tick s).trans (unlessBusy_idle hb _)

/-- R77: TICK writes the Simulation it computes and nothing else. -/
theorem exec_tick_of_ok {s : State} {m : Sim} (hb : s.stream.busy = false)
    (hm : tickSim s.cfg.tickBits s.sim = .ok m) : exec .tick s = .next { s with sim := m } := by
  rw [exec_tick_idle hb, tickOp, hm]
  rfl

/-! ### PRESS -/

@[simp] theorem pressSim_rising (m : Sim) : (pressSim m).rising = true := rfl
@[simp] theorem pressSim_finished (m : Sim) : (pressSim m).finished = m.finished := rfl

/-- R76: requests do not queue. -/
theorem pressSim_of_rising {m : Sim} (hr : m.rising = true) : pressSim m = m := by
  rw [pressSim, ← hr]

/-! ### A TICK that starts finished -/

/-- R78: no sub-step of TICK runs; a request restarts the Simulation. -/
theorem tickSim_of_finished {m : Sim} (hf : m.finished = true) (tickBits : Nat) :
    tickSim tickBits m = .ok (if m.rising then Sim.init else m) := by
  rw [tickSim, if_pos hf]

/-- R78: with a request pending, the restart. -/
theorem exec_tick_restart {s : State} (hb : s.stream.busy = false) (hf : s.sim.finished = true)
    (hr : s.sim.rising = true) : exec .tick s = .next { s with sim := Sim.init } :=
  exec_tick_of_ok hb ((tickSim_of_finished hf _).trans (by rw [if_pos hr]))

/-- R78: with none, nothing changes. -/
theorem exec_tick_finished {s : State} (hb : s.stream.busy = false) (hf : s.sim.finished = true)
    (hr : s.sim.rising = false) : exec .tick s = .next s :=
  exec_tick_of_ok hb ((tickSim_of_finished hf _).trans (by rw [if_neg (Bool.eq_false_iff.1 hr)]))

/-! ### The obligations -/

/-- Settles O25: the state after a PRESS is one with RISING 1, from which a finished Simulation restarts. -/
theorem pressSetsRising : Obligations.PressSetsRising := by
  refine ⟨rfl, fun s => ⟨exec_press_idle, fun hb hr => ?repeated, fun hb hf => ?restart, fun hb => ?busy⟩,
    _, exec_press_idle rfl, ?simstat⟩
  case repeated => rw [exec_press_idle hb, pressSim_of_rising hr]
  case restart =>
    rw [exec_press_idle hb, andThen_next]
    exact exec_tick_restart (s := { s with sim := pressSim s.sim }) hb ((pressSim_finished s.sim).trans hf)
      (pressSim_rising s.sim)
  case busy => exact exec_eq_busyRejected hb .press
  case simstat => decide

/-- Settles O26: the values of construction are those of INIT (R23). -/
theorem simInitConstructs : Obligations.SimInitConstructs :=
  ⟨rfl, fun _ => ⟨exec_simInit_idle, fun hb => exec_eq_busyRejected hb .simInit⟩⟩

/-- Settles O27: the two cases of R78. -/
theorem tickWhenFinished : Obligations.TickWhenFinished := fun _ hb hf =>
  ⟨exec_tick_restart hb hf, exec_tick_finished hb hf⟩

end Sys2Proof.Machine
end

section
/-! BUILD and FrameEq (R91 to R94, R97): the OAM after BUILD from the lemmas about a load, and the equality of two Frame
Descriptors entry by entry. -/

namespace Sys2Proof.Machine

/-! ### BUILD -/

/-- R91, D25: the entries past the objects loaded stay. -/
theorem loadObjects_entry_of_length_le {objs : List DrawObject} {k : Fin 48} (h : objs.length ≤ k.val)
    (d : FrameDesc) : (loadObjects objs d).entries[k] = d.entries[k] :=
  (loadObjects_entry objs d k).trans (List.getD_eq_default _ _ h)

/-- R95: the count after BUILD. -/
theorem loadObjects_builtObjects_count (m : Sim) (d : FrameDesc) :
    (loadObjects (builtObjects m) d).count.toNat = popcount m.grid + popcount m.seg :=
  (loadObjects_count _ d (builtObjects_length_le m)).trans (builtObjects_length m)

/-- R91: BUILD while no stream runs, when the height is in range. -/
theorem exec_build_idle {s : State} (hb : s.stream.busy = false) (hy : s.sim.y.toNat ≤ 6) :
    exec .build s = .next { s with oam := loadObjects (builtObjects s.sim) s.oam } :=
  (exec_build s).trans <| (unlessBusy_idle hb _).trans (buildOp_ok hy)

/-- Settles O35: the OAM after BUILD is the one into which the objects of R92 to R94 are loaded. -/
theorem buildEmitsGridThenSegment : Obligations.BuildEmitsGridThenSegment := by
  refine ⟨rfl, fun s hb => exec_eq_busyRejected hb .build, fun s hb hy =>
    ⟨loadObjects (builtObjects s.sim) s.oam, exec_build_idle hb hy, ?list, ?count, fun k hk => ?kept⟩⟩
  case list => exact objects_loadObjects _ s.oam (builtObjects_length_le s.sim)
  case count => exact loadObjects_builtObjects_count s.sim s.oam
  case kept =>
    rw [loadObjects_count _ _ (builtObjects_length_le s.sim)] at hk
    exact loadObjects_entry_of_length_le hk s.oam

/-! ### FrameEq -/

/-- R25: a Draw Object is its five fields. -/
theorem drawObject_eq_iff (o p : DrawObject) :
    o = p ↔ o.asset = p.asset ∧ o.w = p.w ∧ o.h = p.h ∧ o.x = p.x ∧ o.y = p.y := by
  cases o
  cases p
  rw [DrawObject.mk.injEq]

/-- R26: the objects are as many as the count says, up to the 48 entries there are. -/
@[simp] theorem objects_length (d : FrameDesc) : (objects d).length = min d.count.toNat 48 := by simp [objects]

/-- R26: object `k` is entry `k`. -/
theorem objects_getElem (d : FrameDesc) (k : Fin 48) (h : k.val < (objects d).length) :
    (objects d)[k.val] = d.entries[k] := by simp [objects]

/-- R26, R97: under one count, the objects are the same exactly when the counted entries are. -/
theorem objects_eq_iff {a b : FrameDesc} (hc : a.count = b.count) :
    objects a = objects b ↔ ∀ k : Fin 48, k.val < a.count.toNat → a.entries[k] = b.entries[k] := by
  constructor
  · intro h k hk
    have hka : k.val < (objects a).length := by rw [objects_length]; omega
    have hkb : k.val < (objects b).length := h ▸ hka
    calc a.entries[k] = (objects a)[k.val] := (objects_getElem a k hka).symm
      _ = (objects b)[k.val] := List.getElem_of_eq h hka
      _ = b.entries[k] := objects_getElem b k hkb
  · intro h
    refine List.ext_getElem (by simp [hc]) fun i hia hib => ?_
    obtain ⟨hcount, hi⟩ := lt_min_iff.1 (objects_length a ▸ hia)
    calc (objects a)[i] = a.entries[i] := objects_getElem a ⟨i, hi⟩ hia
      _ = b.entries[i] := h ⟨i, hi⟩ hcount
      _ = (objects b)[i] := (objects_getElem b ⟨i, hi⟩ hib).symm

/-- R97: FrameEq by count and by counted entry. -/
theorem frameEq_iff (a b : FrameDesc) : frameEq a b = true ↔
    a.count = b.count ∧ ∀ k : Fin 48, k.val < a.count.toNat → a.entries[k] = b.entries[k] := by
  rw [frameEq, Bool.and_eq_true, beq_iff_eq, beq_iff_eq]
  exact and_congr_right objects_eq_iff

/-- Settles O37: two counted entries are the same exactly when their five fields are. -/
theorem frameEqIsStructural : Obligations.FrameEqIsStructural := by
  intro a b
  simp only [frameEq_iff, drawObject_eq_iff]

end Sys2Proof.Machine
end

section
/-! Data bytes and the frame stream (R99 to R107): what contributes nothing to a byte, a composed byte bit by bit, and
the frame stream as one list indexed by the number of the byte. -/

namespace Sys2Proof.Machine

/-! ### Bit reversal -/

/-- R99: reversing twice moves bit `i` to bit `7 - i` and back. -/
theorem rev8_rev8 (b : Byte) : rev8 (rev8 b) = b := by
  refine BitVec.eq_of_getLsbD_eq fun i hi => ?_
  have hback : 7 - (7 - i) = i := by omega
  rw [rev8_getLsbD _ i hi, rev8_getLsbD _ (7 - i) (by omega), hback]

/-- Settles O38: bit by bit, by the involution, and on the source's example. -/
theorem rev8ReversesBits : Obligations.Rev8ReversesBits := ⟨rev8_getLsbD, rev8_rev8, by decide⟩

/-! ### Objects that contribute nothing -/

/-- R113: the rectangle of an object, as inequalities. -/
theorem covers_iff (o : DrawObject) (p r : Nat) : covers o p r = true ↔
    (o.x.toNat ≤ p ∧ p < o.x.toNat + o.w.toNat) ∧ o.y.toNat ≤ r ∧ r < o.y.toNat + o.h.toNat := by
  simp [covers, and_assoc]

/-- R100: each fetch draws only when the pixel it looks at lies in the object, the first fetch the byte's first pixel and
the second fetch its last. An object that covers neither contributes nothing. -/
theorem contrib_eq_zero_of_not_covers {assets : List (List Byte)} {o : DrawObject} {r bc : Nat}
    (hfirst : covers o (bc * 8) r = false) (hlast : covers o (bc * 8 + 7) r = false) :
    contrib assets o r bc = 0#8 := by
  rw [← Bool.not_eq_true, covers_iff] at hfirst hlast
  by_cases hrow : (r : Int) - o.y.toNat < 0 ∨ (o.h.toNat : Int) ≤ (r : Int) - o.y.toNat
  · exact if_pos hrow
  · have hfetch1 : firstFetch assets o ((bc : Int) * 8 - o.x.toNat) ((r : Int) - o.y.toNat).toNat = 0#8 :=
      if_neg (by omega)
    have hfetch2 : secondFetch assets o ((bc : Int) * 8 - o.x.toNat) ((r : Int) - o.y.toNat).toNat = 0#8 :=
      if_neg (by omega)
    refine (if_neg hrow).trans ?_
    rw [hfetch1, hfetch2]
    rfl

/-- R107: an object of no height, of no width, or placed outside the output covers no pixel of the output. -/
theorem not_covers_of_degenerate {o : DrawObject} {p r : Nat} (hp : p < 144) (hr : r < 168)
    (h : o.h = 0#8 ∨ o.w = 0#8 ∨ 144 ≤ o.x.toNat ∨ 168 ≤ o.y.toNat) : covers o p r = false := by
  rw [← Bool.not_eq_true, covers_iff]
  obtain h | h | h | h := h
  · have : o.h.toNat = 0 := congrArg BitVec.toNat h
    omega
  · have : o.w.toNat = 0 := congrArg BitVec.toNat h
    omega
  · omega
  · omega

/-! ### Composed bytes -/

/-- R102, R103: a bit is 0 exactly when some object sets it. -/
theorem composeByte_getLsbD_eq_false (assets : List (List Byte)) (objs : List DrawObject) (r bc : Nat) {i : Nat}
    (hi : i < 8) : (composeByte assets objs r bc).getLsbD i = false ↔
      ∃ o ∈ objs, (contrib assets o r bc).getLsbD i = true := by
  rw [← accumulate_getLsbD]
  simp [composeByte, hi]

/-- R103: where no object contributes, the byte is 0xFF. -/
theorem composeByte_eq_ff {assets : List (List Byte)} {objs : List DrawObject} {r bc : Nat}
    (h : ∀ o ∈ objs, contrib assets o r bc = 0#8) : composeByte assets objs r bc = 0xFF#8 := by
  have hnone : accumulate assets objs r bc = 0#8 := by
    refine BitVec.eq_of_getLsbD_eq fun i _ => ?_
    rw [BitVec.getLsbD_zero, ← Bool.not_eq_true, accumulate_getLsbD]
    rintro ⟨o, ho, hbit⟩
    rw [h o ho, BitVec.getLsbD_zero] at hbit
    exact Bool.noConfusion hbit
  rw [composeByte, hnone]
  rfl

/-- Settles O41: the second part needs only that the first and the last of the 8 pixels are not covered. -/
theorem composedByteIsInvertedOr : Obligations.ComposedByteIsInvertedOr := by
  refine fun assets objs r bc => ⟨fun i hi => composeByte_getLsbD_eq_false assets objs r bc hi, fun h => ?_⟩
  refine composeByte_eq_ff fun o ho => ?_
  obtain ⟨-, hcover⟩ := h o ho
  exact contrib_eq_zero_of_not_covers (hcover 0 (by decide)) (hcover 7 (by decide))

/-! ### The frame stream -/

/-- R105: the records of the first `n` rows, as the bytes `k` of one list: byte `k % 20` of row `k / 20`. -/
theorem rowRecords_eq_map (c : Config) (d : FrameDesc) (n : Nat) :
    (List.range n).flatMap (rowRecord c d) =
      (List.range (n * 20)).map fun k => streamByte c d (k / 20) (k % 20) := by
  induction n with
  | zero => rfl
  | succ n ih =>
    have hlast : rowRecord c d n =
        ((List.range 20).map (n * 20 + ·)).map fun k => streamByte c d (k / 20) (k % 20) := by
      rw [rowRecord, List.map_map]
      refine List.map_congr_left fun p hp => ?_
      have hlt : p < 20 := List.mem_range.1 hp
      have hrow : (n * 20 + p) / 20 = n := by omega
      have hbyte : (n * 20 + p) % 20 = p := by omega
      rw [Function.comp_apply, hrow, hbyte]
    rw [List.range_succ, List.flatMap_append, ih, List.flatMap_singleton, hlast, Nat.succ_mul, List.range_add,
      List.map_append]

theorem frameStream_eq_map (c : Config) (d : FrameDesc) :
    frameStream c d = (List.range 3360).map fun k => streamByte c d (k / 20) (k % 20) :=
  rowRecords_eq_map c d 168

@[simp] theorem frameStream_length (c : Config) (d : FrameDesc) : (frameStream c d).length = 3360 := by
  rw [frameStream_eq_map, List.length_map, List.length_range]

/-- R105: byte `k` of the frame stream. -/
theorem frameStream_getElem? (c : Config) (d : FrameDesc) {k : Nat} (hk : k < 3360) :
    (frameStream c d)[k]? = some (streamByte c d (k / 20) (k % 20)) := by
  rw [frameStream_eq_map, List.getElem?_map, List.getElem?_range hk, Option.map_some]

/-- Settles O45: byte `r*20 + p` is byte `p` of the record of row `r`. -/
theorem frameStreamLayout : Obligations.FrameStreamLayout := by
  refine fun c d => ⟨frameStream_length c d, fun r p hr hp => ?_⟩
  have hrow : (r * 20 + p) / 20 = r := by omega
  have hbyte : (r * 20 + p) % 20 = p := by omega
  rw [frameStream_getElem? c d (by omega), hrow, hbyte]
  rfl

/-! ### COMPOSE -/

/-- R107: COMPOSE while no stream runs. -/
theorem exec_compose_idle {s : State} (hb : s.stream.busy = false) :
    exec .compose s = .next { s with stream := startedStream false } :=
  (exec_compose s).trans (unlessBusy_idle hb _)

/-- R26: under count 0 there are no objects. -/
theorem objects_of_count_zero {d : FrameDesc} (h : d.count = 0#6) : objects d = [] := by
  rw [objects, h]
  rfl

/-- R104: the bytes after the two control bytes. -/
theorem streamByte_data (c : Config) (d : FrameDesc) (r : Nat) {p : Nat} (hp : 2 ≤ p) :
    streamByte c d r p = composeByte c.assets (objects d) r (p - 2) := by
  rw [streamByte, if_neg (by omega), if_neg (by omega)]

/-- Settles O46: with no objects nothing contributes to a data byte, and an object placed as R107 says covers no pixel of
the output. -/
theorem composeStartsStream : Obligations.ComposeStartsStream := by
  refine ⟨rfl, fun s => ⟨exec_compose_idle, fun hb => exec_eq_busyRejected hb .compose, fun r p hc hp => ?empty,
    fun o r bc hr hbc ho => ?degenerate⟩⟩
  case empty =>
    rw [streamByte_data _ _ _ hp, objects_of_count_zero hc]
    exact composeByte_eq_ff (List.forall_mem_nil _)
  case degenerate =>
    exact contrib_eq_zero_of_not_covers (not_covers_of_degenerate (by omega) hr ho)
      (not_covers_of_degenerate (by omega) hr ho)

end Sys2Proof.Machine
end

section
/-! The stream engine over time (R105, R106, R109, R122): one step on one answer, and the 3360 steps in which the
transport accepts every byte, by the state after each of them. -/

namespace Sys2Proof.Machine

/-! ### One answer -/

/-- R137: with RESET 0 a running stream has a step. -/
theorem streaming_of_busy {s : State} (hr : s.resetLine = false) (hb : s.stream.busy = true) : streaming s = true := by
  rw [streaming, hr, hb]
  rfl

/-- R40: the byte offered while a stream runs. -/
theorem panelOffer_of_busy {s : State} (hr : s.resetLine = false) (hb : s.stream.busy = true) :
    panelOffer s = some (nextByte s) :=
  if_pos (streaming_of_busy hr hb)

/-- R109: a step whose next event is the transport's answer to the byte offered. -/
theorem step_answer {s : State} {a : Answer} {rest : List Event} (hs : Ready s) (hb : s.stream.busy = true)
    (hin : s.inbox = .answer a :: rest) : step s = .next (streamStep a (s.setInbox rest)) := by
  obtain ⟨hc, hr⟩ := hs
  have hstreaming : streaming (s.setInbox rest) = true := streaming_of_busy hr hb
  rw [step_cons hc hin]
  exact congrArg Host.Outcome.next (if_pos hstreaming)

/-- R109: within a row record the next byte follows. -/
theorem advance_within_row {s : State} (h : s.stream.posByte.toNat < 19) :
    advance s = s.setStream { s.stream with posByte := s.stream.posByte + 1#5 } :=
  if_pos h

/-- R109: after the last byte of a row record the next row's begins. -/
theorem advance_next_row {s : State} (hbyte : 19 ≤ s.stream.posByte.toNat) (hrow : s.stream.posRow.toNat < 167) :
    advance s = s.setStream { s.stream with posRow := s.stream.posRow + 1#8, posByte := 0#5 } :=
  (if_neg hbyte.not_gt).trans (if_pos hrow)

/-- R109: after the last byte of the last row the stream ends. -/
theorem advance_last {s : State} (hbyte : 19 ≤ s.stream.posByte.toNat) (hrow : 167 ≤ s.stream.posRow.toNat) :
    advance s = s.setStream Stream.idle :=
  (if_neg hbyte.not_gt).trans (if_neg hrow.not_gt)

/-- Settles O47: the answer is consumed by `streamStep`, in the cases of R109 and R122. -/
theorem streamStepOffersOneByte : Obligations.StreamStepOffersOneByte := by
  intro s a rest hs hb hin b s1
  refine ⟨panelOffer_of_busy hs.2 hb, ?within, ?nextRow, ?last, ?err⟩
  case within =>
    rintro rfl hbyte
    exact (step_answer hs hb hin).trans (congrArg _ (advance_within_row (s := s1) hbyte))
  case nextRow =>
    rintro rfl hbyte hrow
    exact (step_answer hs hb hin).trans (congrArg _ (advance_next_row (s := s1) hbyte hrow))
  case last =>
    rintro rfl hbyte hrow
    exact (step_answer hs hb hin).trans (congrArg _ (advance_last (s := s1) hbyte hrow))
  case err =>
    rintro code rfl
    refine (step_answer hs hb hin).trans (congrArg _ ((raiseTransport_eq _ _ code s1).trans ?_))
    simp [s1]

/-! ### The stream after `k` accepted bytes -/

/-- R109: the stream engine after `k` accepted bytes of a stream started with FROM_FRAME `ff`. -/
def streamAfter (ff : Bool) (k : Nat) : Stream :=
  if k < 3360 then { startedStream ff with posRow := BitVec.ofNat 8 (k / 20), posByte := BitVec.ofNat 5 (k % 20) }
  else Stream.idle

/-- R109: while bytes remain, byte `k % 20` of row `k / 20` is next. -/
theorem streamAfter_running (ff : Bool) {k : Nat} (hk : k < 3360) : streamAfter ff k =
    { startedStream ff with posRow := BitVec.ofNat 8 (k / 20), posByte := BitVec.ofNat 5 (k % 20) } :=
  if_pos hk

theorem streamAfter_posRow (ff : Bool) {k : Nat} (hk : k < 3360) : (streamAfter ff k).posRow.toNat = k / 20 := by
  rw [streamAfter_running ff hk, BitVec.toNat_ofNat]
  omega

theorem streamAfter_posByte (ff : Bool) {k : Nat} (hk : k < 3360) : (streamAfter ff k).posByte.toNat = k % 20 := by
  rw [streamAfter_running ff hk, BitVec.toNat_ofNat]
  omega

/-- R108: before the first byte the stream has just started. -/
theorem streamAfter_zero (ff : Bool) : streamAfter ff 0 = startedStream ff := rfl

/-- R109: after the last byte the engine is idle. -/
theorem streamAfter_all (ff : Bool) : streamAfter ff 3360 = Stream.idle := if_neg (lt_irrefl _)

/-- R109: one more accepted byte, in the three cases of `advance`. -/
theorem advance_streamAfter {s : State} {ff : Bool} {k : Nat} (hk : k < 3360) (h : s.stream = streamAfter ff k) :
    advance s = s.setStream (streamAfter ff (k + 1)) := by
  have hrow : s.stream.posRow.toNat = k / 20 := h ▸ streamAfter_posRow ff hk
  have hbyte : s.stream.posByte.toNat = k % 20 := h ▸ streamAfter_posByte ff hk
  by_cases hlastByte : k % 20 < 19
  · have hr : (k + 1) / 20 = k / 20 := by omega
    have hp : (k + 1) % 20 = k % 20 + 1 := by omega
    rw [advance_within_row (by omega), h, streamAfter_running ff hk, streamAfter_running ff (by omega), hr, hp,
      BitVec.ofNat_add]
  · by_cases hlastRow : k / 20 < 167
    · have hr : (k + 1) / 20 = k / 20 + 1 := by omega
      have hp : (k + 1) % 20 = 0 := by omega
      rw [advance_next_row (by omega) (by omega), h, streamAfter_running ff hk, streamAfter_running ff (by omega), hr, hp,
        BitVec.ofNat_add]
    · have hend : k + 1 = 3360 := by omega
      rw [advance_last (by omega) (by omega), hend, streamAfter_all]

/-! ### The state after `k` accepted bytes -/

/-- R105: the transfers of a list of accepted bytes, newest first, as the panel log holds them. -/
def acceptedLog (bytes : List Byte) : List PanelTransfer :=
  (bytes.map fun b => { byte := b, answer := .ok }).reverse

theorem acceptedLog_concat (bytes : List Byte) (b : Byte) :
    acceptedLog (bytes ++ [b]) = { byte := b, answer := .ok } :: acceptedLog bytes := by
  simp [acceptedLog]

/-- R105: `s` after the first `k` bytes of a stream started with FROM_FRAME `ff`, each accepted. -/
def sendingState (s : State) (ff : Bool) (k : Nat) : State :=
  { s with
    stream := streamAfter ff k
    inbox := s.inbox.drop k
    panelLog := acceptedLog ((frameStream s.cfg s.oam).take k) ++ s.panelLog }

/-- R108: nothing is sent at the start of the stream. -/
theorem sendingState_zero {s : State} {ff : Bool} (h : s.stream = startedStream ff) : sendingState s ff 0 = s := by
  rw [sendingState, streamAfter_zero, ← h]
  rfl

theorem sendingState_busy (s : State) (ff : Bool) {k : Nat} (hk : k < 3360) :
    (sendingState s ff k).stream.busy = true :=
  congrArg Stream.busy (streamAfter_running ff hk)

/-- R106: CS is 1 before every byte. -/
theorem sendingState_cs (s : State) (ff : Bool) {k : Nat} (hk : k < 3360) : (sendingState s ff k).stream.cs = true :=
  congrArg Stream.cs (streamAfter_running ff hk)

/-- R105, R109: the byte at the position is the one the frame stream has next. -/
theorem nextByte_sendingState (s : State) (ff : Bool) {k : Nat} (hk : k < 3360) :
    (frameStream s.cfg s.oam)[k]? = some (nextByte (sendingState s ff k)) := by
  rw [frameStream_getElem? _ _ hk, ← streamAfter_posRow ff hk, ← streamAfter_posByte ff hk]
  rfl

/-- R105: one byte more on the log, one answer less to come. -/
theorem sendingState_succ (s : State) (ff : Bool) {k : Nat} (hk : k < 3360) : sendingState s ff (k + 1) =
    { sendingState s ff k with
      stream := streamAfter ff (k + 1)
      inbox := s.inbox.drop (k + 1)
      panelLog := { byte := nextByte (sendingState s ff k), answer := .ok } :: (sendingState s ff k).panelLog } := by
  rw [sendingState, List.take_add_one, nextByte_sendingState s ff hk, Option.toList_some, acceptedLog_concat]
  rfl

/-- R110: the next event is an answer that accepts the byte. -/
theorem sendingState_inbox {s : State} (ff : Bool) {rest : List Event}
    (hin : s.inbox = List.replicate 3360 (.answer .ok) ++ rest) {k : Nat} (hk : k < 3360) :
    (sendingState s ff k).inbox = .answer .ok :: s.inbox.drop (k + 1) := by
  have hnext : s.inbox[k]? = some (.answer .ok) := by
    rw [hin, List.getElem?_append_left (hk.trans_eq List.length_replicate.symm), List.getElem?_replicate, if_pos hk]
  obtain ⟨hlen, hget⟩ := List.getElem?_eq_some_iff.1 hnext
  exact hget ▸ List.drop_eq_getElem_cons hlen

/-- R109: one more accepted byte. -/
theorem step_sendingState {s : State} (ff : Bool) {rest : List Event} (hs : Ready s)
    (hin : s.inbox = List.replicate 3360 (.answer .ok) ++ rest) {k : Nat} (hk : k < 3360) :
    step (sendingState s ff k) = .next (sendingState s ff (k + 1)) := by
  rw [step_answer (s := sendingState s ff k) hs (sendingState_busy s ff hk) (sendingState_inbox ff hin hk), streamStep,
    advance_streamAfter (ff := ff) hk rfl, sendingState_succ s ff hk]
  rfl

/-! ### The whole run -/

/-- A run goes on from where its first step leads. -/
theorem run_succ {s t : State} (h : step s = .next t) (k : Nat) :
    Host.Core.run core (k + 1) s = Host.Core.run core k t := by
  have hstep : core.step s = .next t := h
  simp only [Host.Core.run, hstep]

/-- A run through states named one by one ends in the last of them. -/
theorem run_of_steps {f : Nat → State} {n : Nat} (hf : ∀ i, i < n → step (f i) = .next (f (i + 1))) (k : Nat) :
    ∀ i, i + k ≤ n → Host.Core.run core k (f i) = .next (f (i + k)) := by
  induction k with
  | zero => exact fun _ _ => rfl
  | succ k ih =>
    intro i hi
    rw [run_succ (hf i (by omega)), ih (i + 1) (by omega), Nat.succ_add_eq_add_succ]

/-- R105: the first `k` steps of a stream whose bytes are all accepted. -/
theorem run_sending {s : State} {ff : Bool} {rest : List Event} (hs : Ready s) (hstart : s.stream = startedStream ff)
    (hin : s.inbox = List.replicate 3360 (.answer .ok) ++ rest) {k : Nat} (hk : k ≤ 3360) :
    Host.Core.run core k s = .next (sendingState s ff k) := by
  have hrun := run_of_steps (f := sendingState s ff) (fun _ hi => step_sendingState ff hs hin hi) k 0 (by omega)
  rwa [sendingState_zero hstart, Nat.zero_add] at hrun

/-- R105, R109: the state after all bytes. -/
theorem sendingState_all {s : State} (ff : Bool) {rest : List Event}
    (hin : s.inbox = List.replicate 3360 (.answer .ok) ++ rest) : sendingState s ff 3360 =
      { s with
        stream := Stream.idle, inbox := rest, panelLog := acceptedLog (frameStream s.cfg s.oam) ++ s.panelLog } := by
  have hinbox : s.inbox.drop 3360 = rest := by rw [hin, List.drop_left' List.length_replicate]
  have hbytes : (frameStream s.cfg s.oam).take 3360 = frameStream s.cfg s.oam :=
    List.take_of_length_le (frameStream_length _ _).le
  rw [sendingState, streamAfter_all, hinbox, hbytes]

/-- Settles O48: after `k` of the steps the state is `sendingState`, whose byte offered is byte `k` of the frame
stream. -/
theorem wholeFrameIsSent : Obligations.WholeFrameIsSent := by
  intro s ff rest hs hstart hin
  refine ⟨?all, fun k hk => ⟨sendingState s ff k, run_sending hs hstart hin hk.le, sendingState_busy s ff hk,
    sendingState_cs s ff hk, ?offer⟩⟩
  case all => rw [run_sending hs hstart hin le_rfl, sendingState_all ff hin, acceptedLog]
  case offer =>
    rw [nextByte_sendingState s ff hk]
    exact panelOffer_of_busy hs.2 (sendingState_busy s ff hk)

end Sys2Proof.Machine
end

section
/-! TICK under the invariants (R24, R123): each of its structural defects is shut out by one of them, so it answers a
Simulation, with RISING cleared (R77) and Y still within the Grid. -/

namespace Sys2Proof.Machine

/-! ### CLIMB_COLUMNS -/

/-- R10: the number of 1 bits, counted over all positions. -/
theorem popcount_eq_countP {n : Nat} (v : BitVec n) : popcount v = (List.range n).countP v.getLsbD :=
  List.countP_eq_length_filter.symm

/-- R80: an attachment in a column of the Grid, at a height of the Grid, fills a cell of the Grid. -/
theorem attach_ok {m : Sim} {x : Nat} (hy : m.y.toNat ≤ 6) (hx : x < 6) :
    attach x m = .ok { m with grid := setBit m.grid (m.y.toNat * 6 + x) } :=
  if_pos (by omega)

/-- R81: a charge is paid while LEN is not 0. -/
theorem chargeLoss_ok {m : Sim} (hlen : m.len ≠ 0#2) : chargeLoss m = .ok { m with len := m.len - 1#2 } :=
  if_neg hlen

/-- R80, R81: a column completes while LEN covers its charge, and what LEN held beyond that charge is left. -/
theorem climbColumn_ok {m : Sim} {x n : Nat} (hy : m.y.toNat ≤ 6) (hx : x < 6)
    (hlen : n + (if m.seg.getLsbD x then 1 else 0) ≤ m.len.toNat) :
    ∃ m', climbColumn m x = .ok m' ∧ n ≤ m'.len.toNat := by
  by_cases hs : m.seg.getLsbD x = true
  · rw [if_pos hs] at hlen
    by_cases hp : supported x m = true
    · exact ⟨_, (if_pos hs).trans <| (if_pos hp).trans (attach_ok hy hx), Nat.le_of_succ_le hlen⟩
    · have hne : m.len ≠ 0#2 := by bv_omega
      refine ⟨_, (if_pos hs).trans <| (if_neg hp).trans (chargeLoss_ok hne), ?_⟩
      change n ≤ (m.len - 1#2).toNat
      bv_omega
  · rw [if_neg hs] at hlen
    exact ⟨m, if_neg hs, hlen⟩

/-- R80, R81: a climb completes when LEN covers a charge for every Filled cell of SEG among its columns. -/
theorem climb_ok (xs : List Nat) : ∀ {m : Sim}, m.y.toNat ≤ 6 → (∀ x ∈ xs, x < 6) →
    xs.countP m.seg.getLsbD ≤ m.len.toNat → ∃ m', xs.foldlM climbColumn m = .ok m' := by
  induction xs with
  | nil => exact fun {m} _ _ _ => ⟨m, rfl⟩
  | cons x xs ih =>
    intro m hy hxs hlen
    obtain ⟨hx, hrest⟩ := List.forall_mem_cons.1 hxs
    rw [List.countP_cons] at hlen
    obtain ⟨m1, hm1, hlen1⟩ := climbColumn_ok hy hx hlen
    have hframe := climbColumn_frame hm1
    have hy1 : m1.y = m.y := by rw [hframe]
    have hseg1 : m1.seg = m.seg := by rw [hframe]
    obtain ⟨m', hm'⟩ := ih (m := m1) (hy1 ▸ hy) hrest (hseg1 ▸ hlen1)
    exact ⟨m', by rw [List.foldlM_cons, hm1]; exact hm'⟩

/-- R24 (I1), R123: a climb completes when LEN is the number of Filled cells of SEG. -/
theorem climbColumns_ok {m : Sim} (hy : m.y.toNat ≤ 6) (hlen : popcount m.seg = m.len.toNat) :
    ∃ m', climbColumns m = .ok m' :=
  climb_ok (List.range 6) hy (fun _ => List.mem_range.1) ((popcount_eq_countP m.seg).symm.trans hlen).le

/-- R80: a climb does not move the Segment. -/
theorem climbColumns_y {m m' : Sim} (h : climbColumns m = .ok m') : m'.y = m.y := by
  obtain ⟨hframe, -, -⟩ := climb_frame _ h
  rw [hframe]

/-! ### After the columns -/

@[simp] theorem settle_rising (m : Sim) : (settle m).rising = false := by rw [settle_eq]
@[simp] theorem settle_y (m : Sim) : (settle m).y = m.y := by rw [settle_eq]

/-- R82 to R84: from a height of the Grid the steps after the columns complete. -/
theorem afterClimb_ok {m : Sim} (hy : m.y.toNat ≤ 6) : ∃ m', afterClimb m = .ok m' := by
  by_cases hend : m.len = 0#2 ∨ m.y.toNat + 1 = 7
  · exact ⟨_, if_pos hend⟩
  · exact ⟨_, (if_neg hend).trans (if_pos (by omega))⟩

/-- R83, R84: the steps after the columns clear RISING and leave Y within the Grid. -/
theorem afterClimb_rising_y {m m' : Sim} (h : afterClimb m = .ok m') : m'.rising = false ∧ m'.y.toNat ≤ 6 := by
  obtain ⟨-, rfl⟩ | ⟨-, hy, rfl⟩ := afterClimb_cases h
  · exact ⟨rfl, Nat.zero_le 6⟩
  · refine ⟨settle_rising _, ?_⟩
    rw [settle_y, BitVec.toNat_ofNat]
    omega

/-! ### TICK -/

/-- R79, R85: a TICK without a climb. -/
theorem tickSim_of_not_rising {m : Sim} (hf : m.finished = false) (hr : m.rising = false) (tickBits : Nat) :
    tickSim tickBits m = .ok (settle (countTick tickBits m)) :=
  (if_neg (Bool.eq_false_iff.1 hf)).trans (if_neg (Bool.eq_false_iff.1 hr))

/-- R79 to R84: a TICK that climbs. -/
theorem tickSim_of_rising {m : Sim} (hf : m.finished = false) (hr : m.rising = true) (tickBits : Nat) :
    tickSim tickBits m = (climbColumns (countTick tickBits m)).bind afterClimb :=
  (if_neg (Bool.eq_false_iff.1 hf)).trans (if_pos hr)

/-- R123: under the invariants TICK meets no structural defect. -/
theorem tickSim_ok {tickBits : Nat} {m : Sim} (h : SimInv tickBits m) : ∃ m', tickSim tickBits m = .ok m' := by
  obtain ⟨hlen, -, -, hy, -, -⟩ := h
  cases hf : m.finished with
  | true => exact ⟨_, tickSim_of_finished hf tickBits⟩
  | false =>
    cases hr : m.rising with
    | false => exact ⟨_, tickSim_of_not_rising hf hr tickBits⟩
    | true =>
      obtain ⟨-, hpop⟩ := hlen hf
      obtain ⟨m1, hm1⟩ := climbColumns_ok (m := countTick tickBits m) hy hpop
      have hy1 : m1.y.toNat ≤ 6 := (congrArg BitVec.toNat (climbColumns_y hm1)).trans_le hy
      obtain ⟨m', hm'⟩ := afterClimb_ok hy1
      refine ⟨m', ?_⟩
      rw [tickSim_of_rising hf hr, hm1]
      exact hm'

/-- R77: every TICK that completes clears RISING and leaves Y within the Grid. -/
theorem tickSim_rising_y {tickBits : Nat} {m m' : Sim} (h : tickSim tickBits m = .ok m') (hy : m.y.toNat ≤ 6) :
    m'.rising = false ∧ m'.y.toNat ≤ 6 := by
  obtain ⟨-, rfl⟩ | ⟨-, -, rfl⟩ | ⟨-, -, m1, -, hm'⟩ := tickSim_cases h
  · cases hr : m.rising with
    | true => exact ⟨rfl, Nat.zero_le 6⟩
    | false => exact ⟨hr, hy⟩
  · exact ⟨settle_rising _, (congrArg BitVec.toNat (settle_y (countTick tickBits m))).trans_le hy⟩
  · exact afterClimb_rising_y hm'

end Sys2Proof.Machine
end

section
/-! NOP, FRAME and PERIOD (R114 to R117): the render trigger in its two cases, and PERIOD as the sample, a TICK and a
FRAME. -/

namespace Sys2Proof.Machine

/-! ### NOP -/

theorem exec_nop_idle {s : State} (hb : s.stream.busy = false) : exec .nop s = .next s :=
  (exec_nop s).trans (unlessBusy_idle hb _)

/-- Settles O49: NOP is the BUSY check and nothing after it. -/
theorem nopDoesNothing : Obligations.NopDoesNothing :=
  ⟨rfl, fun _ => ⟨exec_nop_idle, fun hb => exec_eq_busyRejected hb .nop⟩⟩

/-! ### FRAME -/

theorem exec_frame_idle {s : State} (hb : s.stream.busy = false) : exec .frame s = frameOp s :=
  (exec_frame s).trans (unlessBusy_idle hb _)

/-- R115: there is no previous frame, or the one just built differs: it is recorded and its stream starts. -/
theorem triggerOp_of_changed {s : State} (h : s.prevValid = false ∨ frameEq s.oam s.prev = false) : triggerOp s =
    { s with prev := s.oam, prevValid := true, drawn := true, stream := startedStream true } := by
  obtain ⟨-, hdraw⟩ | ⟨hvalid, heq, -⟩ := triggerOp_cases s
  · exact hdraw
  · simp [hvalid, heq] at h

/-- R115: the frame just built is the previous one: the redraw is suppressed. -/
theorem triggerOp_of_same {s : State} (hvalid : s.prevValid = true) (heq : frameEq s.oam s.prev = true) :
    triggerOp s = { s with drawn := false } := by
  obtain ⟨hchanged, -⟩ | ⟨-, -, hkeep⟩ := triggerOp_cases s
  · simp [hvalid, heq] at hchanged
  · exact hkeep

/-- Settles O50: `d` is the descriptor with the objects of the Simulation loaded. -/
theorem frameDrawsOnlyOnChange : Obligations.FrameDrawsOnlyOnChange := by
  refine ⟨rfl, fun s => ⟨fun hb => exec_eq_busyRejected hb .frame, fun hb hy => ?_⟩⟩
  have hframe := (exec_frame_idle hb).trans (frameOp_ok hy)
  exact ⟨_, exec_build_idle hb hy,
    fun hchanged => hframe.trans (congrArg Host.Outcome.next (triggerOp_of_changed hchanged)),
    fun hvalid heq => hframe.trans (congrArg Host.Outcome.next (triggerOp_of_same hvalid heq))⟩

/-- R115: what the render trigger can write while no stream runs: PREV_VALID ends up 1, and DRAWN tells whether a stream
was started. -/
theorem triggerOp_frame {s : State} (hb : s.stream.busy = false) : ∃ prev stream,
    triggerOp s = { s with prev := prev, prevValid := true, drawn := stream.busy, stream := stream }
    ∧ (stream = startedStream true ∨ stream = s.stream) := by
  obtain ⟨-, hdraw⟩ | ⟨hvalid, -, hkeep⟩ := triggerOp_cases s
  · exact ⟨s.oam, startedStream true, hdraw, .inl rfl⟩
  · exact ⟨s.prev, s.stream, by rw [hkeep, ← hvalid, hb], .inr rfl⟩

/-! ### PERIOD -/

@[simp] theorem sampleOp_stream (btn : Bool) (s : State) : (sampleOp btn s).stream = s.stream := by rw [sampleOp_eq]

/-- R117: PERIOD while no stream runs. -/
theorem exec_period_idle {s : State} (hb : s.stream.busy = false) (btn : Bool) :
    exec (.period btn) s = andThen (tickOp (sampleOp btn s)) frameOp :=
  (exec_period btn s).trans (unlessBusy_idle hb _)

/-- R77: TICK starts no stream, so the FRAME after it is performed. -/
theorem andThen_tickOp_frame {s : State} (hb : s.stream.busy = false) :
    andThen (tickOp s) (exec .frame) = andThen (tickOp s) frameOp := by
  obtain ⟨m, -, htick⟩ | ⟨d, -, htick⟩ := tickOp_cases s
  · rw [htick]
    exact exec_frame_idle (s := s.setSim m) hb
  · rw [htick]
    rfl

/-- R117: PERIOD as the commands it is made of. -/
theorem exec_period_eq_tick_frame {s : State} (hb : s.stream.busy = false) (btn : Bool) :
    exec (.period btn) s = andThen (exec .tick (sampleOp btn s)) (exec .frame) := by
  have hb' : (sampleOp btn s).stream.busy = false := by rw [sampleOp_stream, hb]
  rw [exec_period_idle hb, exec_tick_idle hb', andThen_tickOp_frame hb']

/-- R24: no invariant speaks of RISING, so the sample keeps them. -/
theorem simInv_sampleOp (btn : Bool) {s : State} (h : SimInv s.cfg.tickBits s.sim) :
    SimInv (sampleOp btn s).cfg.tickBits (sampleOp btn s).sim := by
  rw [sampleOp_eq]
  exact h

/-- R117: the Simulation after the Tick of a PERIOD, and the render trigger on what is built from it. -/
theorem exec_period_ok {s : State} (hb : s.stream.busy = false) (h : SimInv s.cfg.tickBits s.sim) (btn : Bool) :
    ∃ m : Sim, m.rising = false ∧ exec (.period btn) s = .next (triggerOp
      { s with sim := m, oam := loadObjects (builtObjects m) s.oam, btnPrev := btn }) := by
  have hinv := simInv_sampleOp btn h
  obtain ⟨m, hm⟩ := tickSim_ok hinv
  obtain ⟨-, -, -, hy, -, -⟩ := hinv
  obtain ⟨hrising, hym⟩ := tickSim_rising_y hm hy
  have htick : tickOp (sampleOp btn s) = .next ((sampleOp btn s).setSim m) := by rw [tickOp, hm]
  refine ⟨m, hrising, ?_⟩
  rw [exec_period_idle hb, htick, andThen_next, frameOp_ok (s := (sampleOp btn s).setSim m) hym, sampleOp_eq]
  rfl

/-- Settles O52: the sample is `sampleOp`; under the invariants its TICK completes with Y in the range of BUILD. -/
theorem periodPressesTicksAndFrames : Obligations.PeriodPressesTicksAndFrames := by
  refine ⟨rfl, rfl, fun s btn => ⟨fun hb => exec_eq_busyRejected hb (.period btn), fun hb => ?sequence,
    fun hb _ hinv => ?completes⟩⟩
  case sequence => rw [exec_period_eq_tick_frame hb, sampleOp_eq]
  case completes =>
    obtain ⟨m, hrising, hperiod⟩ := exec_period_ok hb hinv btn
    obtain ⟨prev, stream, htrigger, hstream⟩ := triggerOp_frame
      (s := { s with sim := m, oam := loadObjects (builtObjects m) s.oam, btnPrev := btn }) hb
    rw [htrigger] at hperiod
    exact ⟨_, hperiod, rfl, hrising, rfl, hstream⟩

end Sys2Proof.Machine
end

section
/-! Host accesses while BUSY is 1 (R120): the registers that turn a write away, and the accesses that go on. -/

namespace Sys2Proof.Machine

/-- R49, R120: the registers whose write is not performed while a stream runs. -/
theorem writeReg_of_busy {s : State} (hb : s.stream.busy = true) {r : Reg}
    (hr : r = .cmd ∨ r = .oamCount ∨ (∃ k, r = .oamW0 k) ∨ ∃ k, r = .oamW1 k) (v : Word) :
    writeReg r v s = .next (busyRejected s) := by
  obtain rfl | rfl | ⟨k, rfl⟩ | ⟨k, rfl⟩ := hr
  case inl => exact writeCmd_of_busy hb v
  all_goals
    rw [writeReg]
    exact unlessBusy_busy hb _

/-- R52: a write to CTRL on a block with the display-enable line or without it. -/
theorem writeCtrl_eq (v : Word) (s : State) :
    writeCtrl v s = { s with dispEn := if s.cfg.hasDispLine then v.getLsbD 0 else s.dispEn } := by
  cases hline : s.cfg.hasDispLine with
  | true => exact writeCtrl_of_line hline v
  | false => exact writeCtrl_of_no_line hline v

/-- R47: the step that takes a 4-byte read at a register's offset, whatever else is still to come. -/
theorem step_read_first {s : State} {a : BusAddr} {off : BitVec 12} {rest : List Event} {r : Reg} (hs : Ready s)
    (ha : windowOffset s.cfg.base a = some off) (hr : r.offset = off.toNat) :
    step { s with inbox := .read a 4 :: rest } = .next (responded s rest (.data (readReg r s))) := by
  obtain ⟨hc, hl⟩ := hs
  have hread : step { s with inbox := .read a 4 :: rest } = readAt off 4 (s.setInbox rest) := step_read hc ha rfl
  rw [hread, readAt_reg (s := s.setInbox rest) hl hr, readReg_setInbox]
  rfl

/-- Settles O20: CMD and the OAM registers stand behind the BUSY check; in writes to STATUS and CTRL and in reads BUSY
takes no part. -/
theorem busyWriteIsRejected : Obligations.BusyWriteIsRejected := by
  intro s a off v rest r hs hb ha hr
  have hwrite := step_write_first (rest := rest) hs ha hr v
  refine ⟨fun hreg => ⟨.done, ?_⟩, ?_, ?_, step_read_first hs ha hr⟩
  · rw [hwrite, writeReg_of_busy (s := responded s rest .done) hb hreg]
  · rintro rfl
    rw [hwrite, writeReg, clearSticky_eq]
    rfl
  · rintro rfl
    rw [hwrite, writeReg, writeCtrl_eq]
    rfl

end Sys2Proof.Machine
end

section
/-! The RESET input (R137, R139): the step that takes a level of it, what the block does while it is 1, and what it
shows once it is back at 0. -/

namespace Sys2Proof.Machine

/-! ### Steps -/

/-- R14: the step that takes an event, whatever else is still to come. -/
theorem step_first {s : State} (hc : s.cfg.wellFormed = true) (e : Event) (rest : List Event) :
    step { s with inbox := e :: rest } = takeEvent e (consumed s rest) :=
  step_cons (s := { s with inbox := e :: rest }) hc rfl

/-- R137: RESET goes to 1. -/
theorem step_resetLine_true {s : State} (hc : s.cfg.wellFormed = true) (rest : List Event) :
    step { s with inbox := .resetLine true :: rest } = .next (enterReset (consumed s rest)) :=
  step_first hc (.resetLine true) rest

/-- R137: RESET goes to 0, and the block keeps its state. -/
theorem step_resetLine_false {s : State} (hc : s.cfg.wellFormed = true) (rest : List Event) :
    step { s with inbox := .resetLine false :: rest } = .next { consumed s rest with resetLine := false } :=
  step_first hc (.resetLine false) rest

/-- R139: a late answer of the transport is discarded. -/
theorem step_lateAnswer {s : State} (hc : s.cfg.wellFormed = true) (a : Answer) (rest : List Event) :
    step { s with inbox := .lateAnswer a :: rest } = .next (consumed s rest) :=
  step_first hc (.lateAnswer a) rest

/-! ### While RESET is 1 -/

/-- R137: no host access is performed. -/
theorem grantedReg_of_reset {s : State} (h : s.resetLine = true) (off : BitVec 12) (size : Nat) :
    grantedReg off size s = none :=
  if_pos h

/-- R137: the stream engine has no step. -/
theorem streaming_of_reset {s : State} (h : s.resetLine = true) : streaming s = false := by
  rw [streaming, h, Bool.not_true, Bool.and_false]

/-- R40, R137: no byte is offered. -/
theorem panelOffer_of_reset {s : State} (h : s.resetLine = true) : panelOffer s = none :=
  if_neg (Bool.eq_false_iff.1 (streaming_of_reset h))

/-- R139: an answer of the transport is discarded. -/
theorem takeAnswer_of_reset {s : State} (h : s.resetLine = true) (a : Answer) : takeAnswer a s = s :=
  if_neg (Bool.eq_false_iff.1 (streaming_of_reset h))

/-- R137: a read in the window completes with a bus error. -/
theorem step_read_of_reset {s : State} {a : BusAddr} {off : BitVec 12} (hc : s.cfg.wellFormed = true)
    (h : s.resetLine = true) (ha : windowOffset s.cfg.base a = some off) (size : Nat) (rest : List Event) :
    step { s with inbox := .read a size :: rest } = .next (responded s rest .busError) :=
  (step_read (s := { s with inbox := .read a size :: rest }) hc ha rfl).trans
    (readAt_refused (grantedReg_of_reset h off size))

/-- R137: so does a write. -/
theorem step_write_of_reset {s : State} {a : BusAddr} {off : BitVec 12} (hc : s.cfg.wellFormed = true)
    (h : s.resetLine = true) (ha : windowOffset s.cfg.base a = some off) (size : Nat) (v : Word) (rest : List Event) :
    step { s with inbox := .write a size v :: rest } = .next (responded s rest .busError) :=
  (step_write (s := { s with inbox := .write a size v :: rest }) hc ha rfl).trans
    (writeAt_refused (grantedReg_of_reset h off size))

/-- R139: the step on an answer consumes it and changes nothing. -/
theorem step_answer_of_reset {s : State} (hc : s.cfg.wellFormed = true) (h : s.resetLine = true) (a : Answer)
    (rest : List Event) : step { s with inbox := .answer a :: rest } = .next (consumed s rest) :=
  (step_first hc (.answer a) rest).trans (congrArg Host.Outcome.next (takeAnswer_of_reset (s := consumed s rest) h a))

/-! ### What the registers show -/

/-- R43: every register lies in the 12-bit window. -/
theorem offset_lt_window (r : Reg) : r.offset < 2 ^ 12 := by
  cases r <;> simp only [Reg.offset] <;> omega

/-- R61, R137: no register shows the level of RESET. -/
theorem readReg_setResetLine (r : Reg) (s : State) (b : Bool) : readReg r (s.setResetLine b) = readReg r s := by
  cases r <;> rfl

/-- R41, R137: while RESET is 1 every register holds its value after reset. -/
theorem readReg_enterReset (r : Reg) (s : State) : readReg r (enterReset s) = readReg r (State.resetOf s.cfg) := by
  cases r <;> rfl

/-- R32, R41: STATUS reads 0 after reset. -/
theorem readReg_status_resetOf (c : Config) : readReg .status (State.resetOf c) = 0#32 := by
  simp only [readReg, statusWord, State.resetOf, Stream.idle, flag_false, BitVec.or_zero]

/-- R47, R137: once RESET is back at 0 every register is read, with the value it held before. -/
theorem step_read_of_release {s : State} (hc : s.cfg.wellFormed = true) (r : Reg) (rest : List Event) :
    step { s with resetLine := false, inbox := .read (.offset (BitVec.ofNat 12 r.offset)) 4 :: rest }
      = .next (responded { s with resetLine := false } rest (.data (readReg r s))) := by
  have hoff : r.offset = (BitVec.ofNat 12 r.offset).toNat := by
    rw [BitVec.toNat_ofNat, Nat.mod_eq_of_lt (offset_lt_window r)]
  have hread := step_read_first (s := s.setResetLine false) (a := .offset (BitVec.ofNat 12 r.offset)) (rest := rest)
    ⟨hc, rfl⟩ rfl hoff
  rwa [readReg_setResetLine] at hread

/-- Settles O56: the step with RESET going to 1 is `enterReset`, whatever the state. -/
theorem resetHoldsTheBlock : Obligations.ResetHoldsTheBlock := by
  intro s rest hc
  have henter := step_resetLine_true hc rest
  refine ⟨fun t ht => ?entered, ⟨_, henter⟩, fun hr a off size v ans ha => ?held,
    fun ans => step_lateAnswer hc ans rest⟩
  case entered =>
    obtain rfl : enterReset (consumed s rest) = t := Host.Outcome.next.inj (henter.symm.trans ht)
    have hstatus := (readReg_enterReset .status (consumed s rest)).trans (readReg_status_resetOf s.cfg)
    exact ⟨rfl, step_resetLine_false (s := enterReset (consumed s rest)) hc rest,
      fun r => step_read_of_release (s := enterReset (consumed s rest)) hc r rest,
      hstatus, rfl, panelOffer_of_reset (enterReset_resetLine _)⟩
  case held =>
    exact ⟨step_read_of_reset hc hr ha size rest, step_write_of_reset hc hr ha size v rest,
      step_answer_of_reset hc hr ans rest⟩

end Sys2Proof.Machine
end

section
/-! Decode and encode (R54, R67 to R71): a word is read as a command exactly when the bits the command reads are those
of its encoding, and a word with no ignored bit set is that encoding. -/

namespace Sys2Proof.Machine

/-- R71: a word read as a command has the command's OP. -/
theorem opMask_of_decode {v : Word} {i : Instr} (h : decode v = .ok i) :
    v &&& 0x0000000F#32 = encode i &&& 0x0000000F#32 := by
  refine BitVec.eq_of_toNat_eq ((opField_toNat_eq_opMask v).symm.trans ?_)
  unfold decode at h
  split at h
  case h_8 hop =>
    cases h
    rw [hop]
    cases btnField v <;> rfl
  case h_9 => cases h
  all_goals
    next hop =>
      cases h
      exact hop

/-- R67: the bits PERIOD reads are OP and BTN. -/
theorem and_periodMask (v : Word) : v &&& 0x0000010F#32 =
    v &&& 0x0000000F#32 ||| (if v.getLsbD 8 then 0x00000100#32 else 0#32) := by
  have hmask : 0x0000010F#32 = 0x0000000F#32 ||| BitVec.twoPow 32 8 := by decide
  rw [hmask, BitVec.and_or_distrib_left, BitVec.and_twoPow]
  rfl

/-- R67, R69, R71: OP 7 and the level of BTN are the read bits of the encoding of PERIOD at that level. -/
theorem and_careMask_period {v : Word} (h : v &&& 0x0000000F#32 = 7#32) :
    v &&& careMask (.period (v.getLsbD 8)) = encode (.period (v.getLsbD 8)) := by
  rw [careMask, and_periodMask, h]
  cases v.getLsbD 8 <;> rfl

/-- R71: the encoding of every command is read as the command. -/
theorem decode_encode (i : Instr) : decode (encode i) = .ok i := by
  cases i with
  | period btn => cases btn <;> rfl
  | _ => rfl

/-- R67: every command reads OP, so words that agree in the bits the command reads have one OP. -/
theorem opMask_of_and_careMask {v : Word} {i : Instr} (h : v &&& careMask i = encode i) :
    v &&& 0x0000000F#32 = encode i &&& 0x0000000F#32 := by
  have hop : careMask i &&& 0x0000000F#32 = 0x0000000F#32 := by cases i <;> (rw [careMask]; rfl)
  rw [← h, BitVec.and_assoc, hop]

/-- R67, R71: a word is read as a command exactly when its read bits are those of the command's encoding. -/
theorem decode_eq_ok_iff (v : Word) (i : Instr) : decode v = .ok i ↔ v &&& careMask i = encode i := by
  cases i with
  | period btn =>
    constructor
    · intro h
      have hop : v &&& 0x0000000F#32 = 7#32 := (opMask_of_decode h).trans (by cases btn <;> rfl)
      obtain rfl : v.getLsbD 8 = btn := by
        rw [decode_of_opMask_eq_seven hop] at h
        exact Instr.period.inj (Except.ok.inj h)
      exact and_careMask_period hop
    · intro h
      have hop : v &&& 0x0000000F#32 = 7#32 := (opMask_of_and_careMask h).trans (by cases btn <;> rfl)
      have hbtn : v.getLsbD 8 = btn := by
        have hbit := congrArg (BitVec.getLsbD · 8) h
        rw [BitVec.getLsbD_and] at hbit
        cases btn <;> simpa [careMask, encode] using hbit
      rw [decode_of_opMask_eq_seven hop, hbtn]
  | _ => exact ⟨opMask_of_decode, fun h => (decode_of_opMask_eq h (by decide)).trans (decode_encode _)⟩

/-- R54, R66: through the byte lanes a word is read as it is read whole, and what follows it is given back. -/
theorem decodeBytes_byteLanes_eq_ok_iff (v : Word) (i : Instr) (rest : List Byte) :
    decodeBytes (byteLanes v ++ rest) = .ok (i, rest) ↔ decode v = .ok i := by
  rw [decodeBytes_byteLanes]
  cases decode v with
  | ok j => simp [Except.map]
  | error r => simp [Except.map]

/-! ### Canonical words -/

/-- R67, R69, R70: what it means that no ignored bit is set. -/
theorem canonicalWord_iff (v : Word) : canonicalWord v = true ↔
    v &&& 0x00000008#32 = 0#32 ∧ v &&& 0xFFFFFEF0#32 = 0#32
    ∧ (v &&& 0x00000100#32 = 0#32 ∨ v &&& 0x0000000F#32 = 7#32) := by
  simp only [canonicalWord, Bool.and_eq_true, Bool.or_eq_true, beq_iff_eq, and_assoc]

/-- A word that is 0 outside a mask is all in the mask. -/
theorem and_eq_self_of_outside {v mask outside : Word} (hout : v &&& outside = 0#32)
    (hall : mask ||| outside = BitVec.allOnes 32) : v &&& mask = v := by
  calc v &&& mask = v &&& mask ||| v &&& outside := by rw [hout, BitVec.or_zero]
    _ = v := by rw [← BitVec.and_or_distrib_left, hall, BitVec.and_allOnes]

/-- R71: bit 3 of a word at 0 puts OP below 8. -/
theorem opField_lt_of_bit_three {v : Word} (h : v &&& 0x00000008#32 = 0#32) : (opField v).toNat < 8 := by
  have hbit : (opField v).getLsbD 3 = false := by
    have hv := congrArg (BitVec.getLsbD · 3) h
    rw [BitVec.getLsbD_and] at hv
    simpa [opField, BitVec.getLsbD_extractLsb'] using hv
  have hlow : (opField v).msb = false := by rw [BitVec.msb_eq_getLsbD_last]; exact hbit
  exact BitVec.toNat_lt_of_msb_false hlow

/-- R70: a canonical word has no bit set but those its command reads. -/
theorem and_careMask_of_canonicalWord {v : Word} {i : Instr} (hcan : canonicalWord v = true) (h : decode v = .ok i) :
    v &&& careMask i = v := by
  obtain ⟨-, hreserved, hbtn⟩ := (canonicalWord_iff v).1 hcan
  cases i with
  | period btn => exact and_eq_self_of_outside (mask := 0x0000010F#32) hreserved (by decide)
  | _ =>
    have hop : v &&& 0x0000000F#32 ≠ 7#32 := fun h7 => by rw [decode_of_opMask_eq_seven h7] at h; cases h
    have hout : v &&& (0xFFFFFEF0#32 ||| 0x00000100#32) = 0#32 := by
      rw [BitVec.and_or_distrib_left, hreserved, hbtn.resolve_right hop, BitVec.or_zero]
    exact and_eq_self_of_outside hout (by decide)

/-- R70: the encoding of every command is canonical (the family CanonicalEncoding). -/
theorem canonicalWord_encode : ∀ i : Instr, canonicalWord (encode i) = true
  | .nop => Laws.CanonicalEncoding.nop.2
  | .press => Laws.CanonicalEncoding.press.2
  | .tick => Laws.CanonicalEncoding.tick.2
  | .simInit => Laws.CanonicalEncoding.simInit.2
  | .build => Laws.CanonicalEncoding.build.2
  | .compose => Laws.CanonicalEncoding.compose.2
  | .frame => Laws.CanonicalEncoding.frame.2
  | .period btn => (Laws.CanonicalEncoding.period btn).2

/-- R70: the canonical words are the encodings. -/
theorem canonicalWord_iff_encode (v : Word) : canonicalWord v = true ↔ ∃ i, decode v = .ok i ∧ encode i = v := by
  constructor
  · intro hcan
    obtain ⟨i, hi⟩ := decode_of_operation (opField_lt_of_bit_three ((canonicalWord_iff v).1 hcan).1)
    exact ⟨i, hi, ((decode_eq_ok_iff v i).1 hi).symm.trans (and_careMask_of_canonicalWord hcan hi)⟩
  · rintro ⟨i, -, rfl⟩
    exact canonicalWord_encode i

/-- Settles O3: the lanes take nothing from the word, and the word is read by its read bits. -/
theorem decodeAndEncodeAgree : Obligations.DecodeAndEncodeAgree :=
  ⟨fun i v rest => (decodeBytes_byteLanes_eq_ok_iff v i rest).trans (decode_eq_ok_iff v i),
    fun i rest _ => (decodeBytes_byteLanes_eq_ok_iff (encode i) i rest).2 (decode_encode i), canonicalWord_iff_encode⟩

/-- Settles O1: each word is read by running the decoder on it. -/
theorem sampleWordsDecode : Obligations.SampleWordsDecode := by
  unfold Obligations.SampleWordsDecode
  decide

end Sys2Proof.Machine
end

section
/-! SLIDE (R86, R87): the scan by positions, and the slide of an arc. -/

namespace Sys2Proof.Machine

/-- What holds at the start of an interval and after it holds in all of it. -/
theorem forall_interval_of_head {p : Nat → Prop} {a e : Nat} (ha : p a) (h : ∀ j, a + 1 ≤ j → j < e → p j) (j : Nat)
    (haj : a ≤ j) (hj : j < e) : p j := by
  obtain rfl | hlt := Nat.eq_or_lt_of_le haj
  · exact ha
  · exact h j hlt hj

/-! ### The scan after a gap -/

/-- R86: after a gap the scan moves the first Filled cell it meets, and with none it leaves SEG. -/
theorem slideScan_true_cases (seg : BitVec 6) (len : BitVec 2) (n : Nat) : ∀ a,
    ((∀ j, a ≤ j → j < a + n → seg.getLsbD (j % 6) = false) ∧ slideScan seg len (List.range' a n) true = seg)
    ∨ ∃ i, a ≤ i ∧ i < a + n ∧ seg.getLsbD (i % 6) = true ∧ (∀ j, a ≤ j → j < i → seg.getLsbD (j % 6) = false)
      ∧ slideScan seg len (List.range' a n) true = moveCell seg len (i % 6) := by
  induction n with
  | zero => exact fun a => .inl ⟨fun j _ _ => by omega, rfl⟩
  | succ n ih =>
    intro a
    rw [List.range'_succ, slideScan]
    cases hcell : seg.getLsbD (a % 6) with
    | true => exact .inr ⟨a, le_rfl, by omega, hcell, fun j _ _ => by omega, if_pos rfl⟩
    | false =>
      obtain ⟨hempty, hscan⟩ | ⟨i, hai, hi, hfilled, hempty, hscan⟩ := ih (a + 1)
      · exact .inl ⟨fun j haj hj => forall_interval_of_head hcell hempty j haj (by omega), hscan⟩
      · exact .inr ⟨i, by omega, by omega, hfilled, forall_interval_of_head hcell hempty, hscan⟩

/-! ### The scan up to the first gap -/

/-- R86: up to the first gap the scan changes nothing; with none it leaves SEG. -/
theorem slideScan_false_cases (seg : BitVec 6) (len : BitVec 2) (n : Nat) : ∀ a,
    ((∀ j, a ≤ j → j < a + n → seg.getLsbD (j % 6) = true) ∧ slideScan seg len (List.range' a n) false = seg)
    ∨ ∃ g, a ≤ g ∧ g < a + n ∧ seg.getLsbD (g % 6) = false ∧ (∀ j, a ≤ j → j < g → seg.getLsbD (j % 6) = true)
      ∧ slideScan seg len (List.range' a n) false =
        slideScan seg len (List.range' (g + 1) (a + n - (g + 1))) true := by
  induction n with
  | zero => exact fun a => .inl ⟨fun j _ _ => by omega, rfl⟩
  | succ n ih =>
    intro a
    rw [List.range'_succ, slideScan]
    cases hcell : seg.getLsbD (a % 6) with
    | false =>
      refine .inr ⟨a, le_rfl, by omega, hcell, fun j _ _ => by omega, ?_⟩
      rw [show a + (n + 1) - (a + 1) = n by omega]
      rfl
    | true =>
      obtain ⟨hfull, hscan⟩ | ⟨g, hag, hg, hgap, hfull, hscan⟩ := ih (a + 1)
      · exact .inl ⟨fun j haj hj => forall_interval_of_head hcell hfull j haj (by omega), hscan⟩
      · refine .inr ⟨g, by omega, by omega, hgap, forall_interval_of_head hcell hfull, ?_⟩
        rw [show a + (n + 1) - (g + 1) = a + 1 + n - (g + 1) by omega]
        exact hscan

/-! ### SLIDE by positions -/

/-- R86: the scan of SLIDE. -/
abbrev slideSeg (seg : BitVec 6) (len : BitVec 2) : BitVec 6 := slideScan seg len [0, 1, 2, 3, 4, 5, 6] false

/-- R86: a first gap and a first Filled cell after it, which moves; or one of the two is missing, and SEG stays. -/
theorem slideSeg_cases (seg : BitVec 6) (len : BitVec 2) :
    (∃ g i, FirstGap seg g ∧ FirstAfterGap seg g i ∧ slideSeg seg len = moveCell seg len (i % 6))
    ∨ slideSeg seg len = seg ∧ ∀ g i, FirstGap seg g → ¬ FirstAfterGap seg g i := by
  obtain ⟨hfull, hscan⟩ | ⟨g, -, hg, hgap, hfull, hscan⟩ := slideScan_false_cases seg len 7 0
  · refine .inr ⟨hscan, fun g i ⟨hg, hgap, _⟩ _ => ?_⟩
    rw [hfull g (Nat.zero_le g) (by omega)] at hgap
    cases hgap
  · have hfirst : FirstGap seg g := ⟨by omega, hgap, fun i hi => hfull i (Nat.zero_le _) hi⟩
    obtain ⟨hempty, hrest⟩ | ⟨i, hgi, hi, hcell, hempty, hrest⟩ :=
      slideScan_true_cases seg len (0 + 7 - (g + 1)) (g + 1)
    · refine .inr ⟨hscan.trans hrest, fun g' i ⟨hg', hgap', hfull'⟩ ⟨hgi, hi, hcell, _⟩ => ?_⟩
      have hle : g ≤ g' := by
        by_contra hlt
        rw [hfull g' (Nat.zero_le _) (by omega)] at hgap'
        cases hgap'
      rw [hempty i (by omega) (by omega)] at hcell
      cases hcell
    · exact .inl ⟨g, i, hfirst, ⟨by omega, by omega, hcell, fun j hgj hji => hempty j hgj hji⟩, hscan.trans hrest⟩

/-- R86: there is one first gap. -/
theorem firstGap_unique {seg : BitVec 6} {g g' : Nat} (h : FirstGap seg g) (h' : FirstGap seg g') : g = g' := by
  obtain ⟨hg, hgap, hfull⟩ := h
  obtain ⟨hg', hgap', hfull'⟩ := h'
  obtain hlt | heq | hgt := lt_trichotomy g g'
  · exact absurd (hfull' ⟨g, by omega⟩ hlt) (Bool.eq_false_iff.1 hgap)
  · exact heq
  · exact absurd (hfull ⟨g', by omega⟩ hgt) (Bool.eq_false_iff.1 hgap')

/-- R86: there is one first Filled cell after a gap. -/
theorem firstAfterGap_unique {seg : BitVec 6} {g i i' : Nat} (h : FirstAfterGap seg g i)
    (h' : FirstAfterGap seg g i') : i = i' := by
  obtain ⟨hgi, hi, hcell, hempty⟩ := h
  obtain ⟨hgi', hi', hcell', hempty'⟩ := h'
  obtain hlt | heq | hgt := lt_trichotomy i i'
  · exact absurd hcell (Bool.eq_false_iff.1 (hempty' ⟨i, by omega⟩ hgi hlt))
  · exact heq
  · exact absurd hcell' (Bool.eq_false_iff.1 (hempty ⟨i', by omega⟩ hgi' hgt))

/-- R86: a cell of SEG after the Filled cell `x` moved LEN places on. -/
theorem getLsbD_moveCell (seg : BitVec 6) (len : BitVec 2) (x : Nat) {j : Nat} (hj : j < 6) :
    (moveCell seg len x).getLsbD j =
      (decide (j = (x + len.toNat) % 6) || (seg.getLsbD j && decide (j ≠ x))) := by
  rw [moveCell, getLsbD_setBit, getLsbD_clearBit, Bool.or_comm]
  simp only [hj, decide_true, Bool.true_and, eq_comm (b := j), ne_eq]

/-- R86: what the scan leaves in SEG is what the positions say. -/
theorem slideSpec_slideSeg (seg : BitVec 6) (len : BitVec 2) : SlideSpec seg len.toNat (slideSeg seg len) := by
  obtain ⟨g, i, hg, hi, hmove⟩ | ⟨hstay, hnone⟩ := slideSeg_cases seg len
  · refine ⟨fun g' i' hg' hi' j => ?_, fun hnone => absurd hi ?_⟩
    · obtain rfl := firstGap_unique hg hg'
      obtain rfl := firstAfterGap_unique hi hi'
      rw [hmove, getLsbD_moveCell _ _ _ j.isLt]
    · exact hnone ⟨g, by omega⟩ ⟨i, by omega⟩ hg
  · exact ⟨fun g i hg hi => absurd hi (hnone g i hg), fun _ => hstay⟩

/-! ### The slide of an arc -/

/-- R24 (I2): the arc of `len` ring cells from `start` on. -/
def arc (len start : Nat) : BitVec 6 := BitVec.ofFnLE fun j : Fin 6 => decide ((j.val + 6 - start) % 6 < len)

/-- R24 (I2): the cells of an arc, counted from its start. -/
theorem arcFrom_arc (len : Nat) (start : Fin 6) : ArcFrom (arc len start.val) len start.val := by
  intro j
  have hcell : (start.val + j.val) % 6 < 6 := Nat.mod_lt _ (by decide)
  have hplace : ((start.val + j.val) % 6 + 6 - start.val) % 6 = j.val := by omega
  rw [arc, BitVec.getLsbD_ofFnLE, dif_pos hcell, hplace]

/-- R24 (I2): an arc is determined by its length and its start. -/
theorem arcFrom_iff (seg : BitVec 6) (len : Nat) (start : Fin 6) :
    ArcFrom seg len start.val ↔ seg = arc len start.val := by
  constructor
  · intro h
    refine BitVec.eq_of_getLsbD_eq fun i hi => ?_
    have hplace : (start.val + (i + 6 - start.val) % 6) % 6 = i := by omega
    have hseg := h ⟨(i + 6 - start.val) % 6, Nat.mod_lt _ (by decide)⟩
    have harc := arcFrom_arc len start ⟨(i + 6 - start.val) % 6, Nat.mod_lt _ (by decide)⟩
    rw [hplace] at hseg harc
    exact hseg.trans harc.symm
  · rintro rfl
    exact arcFrom_arc len start

/-- R87: SLIDE on each of the 18 arcs of 1 to 3 cells. -/
theorem slideSeg_arc : ∀ (len : BitVec 2) (start : Fin 6), 1 ≤ len.toNat →
    slideSeg (arc len.toNat start.val) len = arc len.toNat ((start.val + 1) % 6) := by
  decide

/-- R24 (I1): an arc of LEN cells has LEN Filled cells. -/
theorem popcount_arc : ∀ (len : BitVec 2) (start : Fin 6), popcount (arc len.toNat start.val) = len.toNat := by
  decide

/-- R24 (I1, I2): an arc of LEN cells has LEN Filled cells. -/
theorem popcount_of_arcFrom {seg : BitVec 6} {len : BitVec 2} {start : Fin 6} (h : ArcFrom seg len.toNat start.val) :
    popcount seg = len.toNat := by
  rw [(arcFrom_iff _ _ _).1 h, popcount_arc]

/-- R87: SLIDE moves an arc on by one place. -/
theorem arcFrom_slideSeg {seg : BitVec 6} {len : BitVec 2} {start : Fin 6} (hlen : 1 ≤ len.toNat)
    (h : ArcFrom seg len.toNat start.val) : ArcFrom (slideSeg seg len) len.toNat ((start.val + 1) % 6) := by
  rw [(arcFrom_iff _ _ _).1 h, slideSeg_arc len start hlen]
  exact arcFrom_arc len.toNat ⟨(start.val + 1) % 6, Nat.mod_lt _ (by decide)⟩

/-- R87: `n` slides move an arc on by `n` places. -/
theorem arcFrom_slide_iterate {m : Sim} {start : Fin 6} (hlen : 1 ≤ m.len.toNat)
    (h : ArcFrom m.seg m.len.toNat start.val) (n : Nat) :
    slide^[n] m = { m with seg := arc m.len.toNat ((start.val + n) % 6) } := by
  induction n with
  | zero => rw [Function.iterate_zero_apply, Nat.add_zero, Nat.mod_eq_of_lt start.isLt, ← (arcFrom_iff _ _ _).1 h]
  | succ n ih =>
    have hslide := slideSeg_arc m.len ⟨(start.val + n) % 6, Nat.mod_lt _ (by decide)⟩ hlen
    rw [Function.iterate_succ_apply', ih, slide]
    simp only [Nat.mod_add_mod] at hslide
    exact congrArg (fun seg => { m with seg := seg }) hslide

end Sys2Proof.Machine
end

section
/-! CLIMB_COLUMNS (R80, R81): what the columns of a climb do to the Grid and to LEN, and the guard of CHARGE_LOSS. -/

namespace Sys2Proof.Machine

/-! ### One column -/

/-- R80: a column attaches when its Segment cell is Filled and it is supported. -/
theorem attaches_eq (m : Sim) (x : Nat) : attaches m x = (m.seg.getLsbD x && supported x m) := by
  have hground : decide (m.y.toNat = 0) = (m.y == 0#3) := by
    rw [Bool.eq_iff_iff, decide_eq_true_eq, beq_iff_eq]
    exact ⟨fun h => BitVec.eq_of_toNat_eq h, fun h => congrArg BitVec.toNat h⟩
  rw [attaches, supported, hground]

/-- R81: column `x` of a climbing TICK fails to attach. -/
def fails (m : Sim) (x : Nat) : Bool := m.seg.getLsbD x && !attaches m x

theorem fails_eq (m : Sim) (x : Nat) : fails m x = (m.seg.getLsbD x && !supported x m) := by
  rw [fails, attaches_eq]
  cases m.seg.getLsbD x <;> rfl

/-- R81: the failed columns, counted. -/
theorem failedColumns_eq_countP (m : Sim) : failedColumns m = (List.range 6).countP (fails m) :=
  List.countP_eq_length_filter.symm

/-- R80: a column that attaches fills the row Y, which is not the row below it: the other columns are supported as
before. -/
theorem attaches_climbColumn {m m' : Sim} {x z : Nat} (hx : x < 6) (hz : z < 6) (h : climbColumn m x = .ok m') :
    attaches m' z = attaches m z := by
  obtain ⟨-, rfl⟩ | ⟨-, -, -, rfl⟩ | ⟨-, -, -, rfl⟩ := climbColumn_cases h
  · rfl
  · by_cases hground : m.y.toNat = 0
    · simp only [attaches, hground, decide_true, Bool.true_or]
    · have hbelow : m.y.toNat * 6 + x ≠ (m.y.toNat - 1) * 6 + z := by omega
      simp only [attaches, getLsbD_setBit, hbelow, decide_false, Bool.and_false, Bool.or_false]
  · rfl

theorem climbColumn_seg {m m' : Sim} {x : Nat} (h : climbColumn m x = .ok m') : m'.seg = m.seg := by
  rw [climbColumn_frame h]

theorem climbColumn_y {m m' : Sim} {x : Nat} (h : climbColumn m x = .ok m') : m'.y = m.y := by
  rw [climbColumn_frame h]

theorem fails_climbColumn {m m' : Sim} {x z : Nat} (hx : x < 6) (hz : z < 6) (h : climbColumn m x = .ok m') :
    fails m' z = fails m z := by
  rw [fails, fails, attaches_climbColumn hx hz h, climbColumn_seg h]

/-- R80: a column fills its cell in row Y exactly when it attaches. -/
theorem climbColumn_grid {m m' : Sim} {x : Nat} (hx : x < 6) (h : climbColumn m x = .ok m') {i : Nat} (hi : i < 42) :
    m'.grid.getLsbD i =
      (m.grid.getLsbD i || (decide (i / 6 = m.y.toNat) && (decide (i % 6 = x) && attaches m (i % 6)))) := by
  obtain ⟨hseg, rfl⟩ | ⟨hseg, hsup, -, rfl⟩ | ⟨hseg, hsup, -, rfl⟩ := climbColumn_cases h
  · by_cases hcol : i % 6 = x
    · simp [hcol, attaches_eq, hseg]
    · simp [hcol]
  · have hcell : m.y.toNat * 6 + x = i ↔ i / 6 = m.y.toNat ∧ i % 6 = x := by omega
    rw [getLsbD_setBit]
    by_cases hcol : i % 6 = x
    · rw [hcol, attaches_eq, hseg, hsup]
      simp [hcell, hcol, hi]
    · simp [hcell, hcol]
  · by_cases hcol : i % 6 = x
    · simp [hcol, attaches_eq, hseg, hsup]
    · simp [hcol]

/-- R81: a column costs one of LEN exactly when it fails. -/
theorem climbColumn_len {m m' : Sim} {x : Nat} (h : climbColumn m x = .ok m') :
    m'.len.toNat + (if fails m x then 1 else 0) = m.len.toNat := by
  obtain ⟨hseg, rfl⟩ | ⟨hseg, hsup, -, rfl⟩ | ⟨hseg, hsup, hlen, rfl⟩ := climbColumn_cases h
  · simp [fails_eq, hseg]
  · simp [fails_eq, hseg, hsup]
  · simp only [fails_eq, hseg, hsup, Bool.not_false, Bool.and_self, if_true]
    bv_omega

/-! ### All columns -/

/-- R80, R81: the columns of a climb fill the cells of row Y that attach, and cost one of LEN for each that fails. -/
theorem climb_effect (xs : List Nat) : ∀ {m m' : Sim}, (∀ x ∈ xs, x < 6) → xs.foldlM climbColumn m = .ok m' →
    (∀ i, i < 42 → m'.grid.getLsbD i =
      (m.grid.getLsbD i || (decide (i / 6 = m.y.toNat) && (decide (i % 6 ∈ xs) && attaches m (i % 6)))))
    ∧ m'.len.toNat + xs.countP (fails m) = m.len.toNat := by
  induction xs with
  | nil =>
    intro m m' _ h
    cases h
    exact ⟨fun i _ => by simp, rfl⟩
  | cons x xs ih =>
    intro m m' hxs h
    obtain ⟨hx, hrest⟩ := List.forall_mem_cons.1 hxs
    rw [List.foldlM_cons] at h
    cases h1 : climbColumn m x with
    | error d => rw [h1] at h; cases h
    | ok m1 =>
      rw [h1] at h
      obtain ⟨hgrid, hlen⟩ := ih hrest (show xs.foldlM climbColumn m1 = .ok m' from h)
      constructor
      · intro i hi
        rw [hgrid i hi, climbColumn_grid hx h1 hi, climbColumn_y h1,
          attaches_climbColumn hx (Nat.mod_lt i (by decide)) h1]
        simp only [List.mem_cons, Bool.decide_or, Bool.and_or_distrib_left, Bool.and_or_distrib_right, Bool.or_assoc]
      · have hcount : xs.countP (fails m1) = xs.countP (fails m) :=
          List.countP_congr fun z hz => by rw [fails_climbColumn hx (hrest z hz) h1]
        rw [List.countP_cons, ← hcount, ← climbColumn_len h1]
        omega

/-- R80: over all six columns, row Y fills where a column attaches. -/
theorem climbColumns_grid {m m' : Sim} (h : climbColumns m = .ok m') {i : Nat} (hi : i < 42) :
    m'.grid.getLsbD i = (m.grid.getLsbD i || (decide (i / 6 = m.y.toNat) && attaches m (i % 6))) := by
  have hcol : i % 6 ∈ List.range 6 := List.mem_range.2 (Nat.mod_lt i (by decide))
  rw [(climb_effect (List.range 6) (fun _ => List.mem_range.1) h).1 i hi, decide_eq_true hcol, Bool.true_and]

/-- R81: LEN falls by the number of columns that fail. -/
theorem climbColumns_len {m m' : Sim} (h : climbColumns m = .ok m') :
    m'.len.toNat + failedColumns m = m.len.toNat := by
  rw [failedColumns_eq_countP]
  exact (climb_effect (List.range 6) (fun _ => List.mem_range.1) h).2

/-- R80: a climb writes GRID and LEN alone. -/
theorem climbColumns_frame {m m' : Sim} (h : climbColumns m = .ok m') :
    m' = { m with grid := m'.grid, len := m'.len } :=
  (climb_frame _ h).1

/-! ### The guard of CHARGE_LOSS -/

/-- R81, R123: with LEN 0 a column that fails is a structural defect. -/
theorem climbColumn_lenUnderflow {m : Sim} {x : Nat} (hlen : m.len = 0#2) (hx : fails m x = true) :
    climbColumn m x = .error .lenUnderflow := by
  rw [fails_eq, Bool.and_eq_true, Bool.not_eq_true'] at hx
  obtain ⟨hseg, hsup⟩ := hx
  rw [climbColumn, if_pos hseg, hsup, if_neg Bool.false_ne_true, chargeLoss, if_pos hlen]

/-- R80: at a height of the Grid, a column that does not fail completes and keeps LEN. -/
theorem climbColumn_of_not_fails {m : Sim} {x : Nat} (hy : m.y.toNat ≤ 6) (hx : x < 6) (h : fails m x = false) :
    ∃ m', climbColumn m x = .ok m' ∧ m'.len = m.len := by
  rw [fails_eq] at h
  cases hseg : m.seg.getLsbD x with
  | false => exact ⟨m, if_neg (Bool.eq_false_iff.1 hseg), rfl⟩
  | true =>
    have hsup : supported x m = true := by simpa [hseg] using h
    exact ⟨_, (if_pos hseg).trans <| (if_pos hsup).trans (attach_ok hy hx), rfl⟩

/-- R81, R123: with LEN 0 the columns of a climb stop at the first that fails. -/
theorem climb_lenUnderflow (xs : List Nat) : ∀ {m : Sim}, m.y.toNat ≤ 6 → m.len = 0#2 → (∀ x ∈ xs, x < 6) →
    (∃ x ∈ xs, fails m x = true) → xs.foldlM climbColumn m = .error .lenUnderflow := by
  induction xs with
  | nil => exact fun _ _ _ ⟨x, hx, _⟩ => nomatch hx
  | cons x xs ih =>
    intro m hy hlen hxs hfail
    obtain ⟨hx, hrest⟩ := List.forall_mem_cons.1 hxs
    rw [List.foldlM_cons]
    cases hf : fails m x with
    | true => rw [climbColumn_lenUnderflow hlen hf]; rfl
    | false =>
      obtain ⟨m1, h1, hlen1⟩ := climbColumn_of_not_fails hy hx hf
      rw [h1]
      refine ih (climbColumn_y h1 ▸ hy) (hlen1.trans hlen) hrest ?_
      obtain ⟨z, hz, hfz⟩ := hfail
      obtain rfl | hz := List.mem_cons.1 hz
      · exact absurd hfz (Bool.eq_false_iff.1 hf)
      · exact ⟨z, hz, (fails_climbColumn hx (hrest z hz) h1).trans hfz⟩

/-- Settles O34: the columns before the one that fails attach, or fail themselves; column 0 has none before it. -/
theorem lenUnderflowIsStructuralDefect : Obligations.LenUnderflowIsStructuralDefect := by
  intro s x hb hf hr hlen hseg hatt hyx
  have hfail : fails (countTick s.cfg.tickBits s.sim) x.val = true := by
    change (s.sim.seg.getLsbD x.val && !attaches s.sim x.val) = true
    rw [hseg, hatt]
    rfl
  have hclimb : climbColumns (countTick s.cfg.tickBits s.sim) = .error .lenUnderflow := by
    obtain hy | hx := hyx
    · exact climb_lenUnderflow (List.range 6) hy hlen (fun _ => List.mem_range.1)
        ⟨x.val, List.mem_range.2 x.isLt, hfail⟩
    · rw [hx] at hfail
      rw [climbColumns, List.foldlM_cons, climbColumn_lenUnderflow (m := countTick s.cfg.tickBits s.sim) hlen hfail]
      rfl
  rw [exec_tick_idle hb, tickOp, tickSim_of_rising hf hr, hclimb]
  rfl

end Sys2Proof.Machine
end

section
/-! TICK on the Simulation (R77 to R88, R145): a TICK without a climb, a climbing TICK, what every TICK keeps, and runs
of PRESS and TICK. -/

namespace Sys2Proof.Machine

/-! ### The sub-steps -/

/-- R79: under a well-formed configuration the counter holds the count after the Tick. -/
theorem countTick_tickcnt_toNat {tickBits : Nat} (htb : tickBits ≤ 32) (m : Sim) :
    (countTick tickBits m).tickcnt.toNat = (m.tickcnt.toNat + 1) % 2 ^ tickBits := by
  have hcount : (m.tickcnt.toNat + 1) % 2 ^ tickBits < 2 ^ tickBits := Nat.mod_lt _ (Nat.two_pow_pos tickBits)
  exact Nat.mod_eq_of_lt (hcount.trans_le (Nat.pow_le_pow_right (by decide) htb))

/-- R8: TICK_BITS is at most 32. -/
theorem tickBits_le {c : Config} (hc : c.wellFormed = true) : c.tickBits ≤ 32 := by
  obtain ⟨-, -, -, hbits⟩ := (wellFormed_iff c).1 hc
  exact hbits

@[simp] theorem settle_grid (m : Sim) : (settle m).grid = m.grid := by rw [settle_eq]
@[simp] theorem settle_len (m : Sim) : (settle m).len = m.len := by rw [settle_eq]
@[simp] theorem settle_finished (m : Sim) : (settle m).finished = m.finished := by rw [settle_eq]
@[simp] theorem settle_tickcnt (m : Sim) : (settle m).tickcnt = m.tickcnt := by rw [settle_eq]

/-- R85, R86: SEG is slid when TICKCNT is a multiple of 8. -/
theorem settle_seg (m : Sim) :
    (settle m).seg = if m.tickcnt.toNat % 8 = 0 then slideSeg m.seg m.len else m.seg := by rw [settle_eq]

/-- R84: the rebuilt Segment, cell by cell. -/
theorem getLsbD_rebuiltSeg (len : BitVec 2) (i : Fin 6) :
    (rebuiltSeg len).getLsbD i.val = decide (i.val < len.toNat) := by
  revert len i
  decide

/-- R24 (I2): the rebuilt Segment is an arc from ring index 0. -/
theorem arcFrom_rebuiltSeg (len : BitVec 2) : ArcFrom (rebuiltSeg len) len.toNat (0 : Fin 6).val := by
  intro j
  have hcell : ((0 : Fin 6).val + j.val) % 6 = j.val := by simp [Nat.mod_eq_of_lt j.isLt]
  rw [hcell]
  exact getLsbD_rebuiltSeg len j

/-! ### A TICK without a climb -/

/-- R79, R85, R86: a TICK without a climb, on the whole state. -/
theorem exec_tick_no_climb {s : State} (hb : s.stream.busy = false) (hf : s.sim.finished = false)
    (hr : s.sim.rising = false) : exec .tick s = .next { s with sim := settle (countTick s.cfg.tickBits s.sim) } :=
  exec_tick_of_ok hb (tickSim_of_not_rising hf hr _)

/-- Settles O28: SEG' is what the settled Simulation holds. -/
theorem tickWithoutClimbSlides : Obligations.TickWithoutClimbSlides := by
  intro s hb hf hr
  have hseg := settle_seg (countTick s.cfg.tickBits s.sim)
  refine ⟨(settle (countTick s.cfg.tickBits s.sim)).seg, ?_, fun hslide => ?_, fun hstay => ?_⟩
  · rw [exec_tick_no_climb hb hf hr, settle_eq]
    simp only [countTick, hr, nextCount]
  · rw [hseg, if_pos (show (countTick s.cfg.tickBits s.sim).tickcnt.toNat % 8 = 0 from hslide)]
    exact slideSpec_slideSeg s.sim.seg s.sim.len
  · rw [hseg, if_neg (show (countTick s.cfg.tickBits s.sim).tickcnt.toNat % 8 ≠ 0 from hstay)]
    rfl

/-- Settles O30: one slide moves the arc on by one place, and six slides go once round the ring. -/
theorem slideRotatesArc : Obligations.SlideRotatesArc := by
  constructor
  · intro s start hb hc hf hr hlen harc hcount
    have hslide : (countTick s.cfg.tickBits s.sim).tickcnt.toNat % 8 = 0 := by
      rw [countTick_tickcnt_toNat (tickBits_le hc)]
      exact hcount
    have hmoved : ArcFrom (settle (countTick s.cfg.tickBits s.sim)).seg s.sim.len.toNat ((start.val + 1) % 6) := by
      rw [settle_seg, if_pos hslide]
      exact arcFrom_slideSeg hlen harc
    exact ⟨_, exec_tick_no_climb hb hf hr, hmoved, settle_len _,
      popcount_of_arcFrom (start := ⟨(start.val + 1) % 6, Nat.mod_lt _ (by decide)⟩) hmoved⟩
  · intro m start hlen harc
    have hround : (start.val + 6) % 6 = start.val := by omega
    have hsix := arcFrom_slide_iterate hlen harc 6
    rw [hround, ← (arcFrom_iff _ _ _).1 harc] at hsix
    exact hsix

/-! ### A climbing TICK -/

/-- R80 to R84: a climbing TICK under the invariants: its columns, and the steps after them. -/
theorem tickSim_climb {tickBits : Nat} {m : Sim} (hinv : SimInv tickBits m) (hf : m.finished = false)
    (hr : m.rising = true) : ∃ m1 m', climbColumns (countTick tickBits m) = .ok m1 ∧ afterClimb m1 = .ok m'
      ∧ tickSim tickBits m = .ok m' := by
  obtain ⟨m', hm'⟩ := tickSim_ok hinv
  obtain ⟨hfin, -⟩ | ⟨-, hnr, -⟩ | ⟨-, -, m1, hclimb, hafter⟩ := tickSim_cases hm'
  · rw [hf] at hfin; cases hfin
  · rw [hr] at hnr; cases hnr
  · exact ⟨m1, m', hclimb, hafter, hm'⟩

/-- R83, R84: GRID, LEN and TICKCNT stay after the columns of a climb. -/
theorem afterClimb_keeps {m m' : Sim} (h : afterClimb m = .ok m') :
    m'.grid = m.grid ∧ m'.len = m.len ∧ m'.tickcnt = m.tickcnt := by
  obtain ⟨-, rfl⟩ | ⟨-, -, rfl⟩ := afterClimb_cases h
  · exact ⟨rfl, rfl, rfl⟩
  · exact ⟨settle_grid _, settle_len _, settle_tickcnt _⟩

/-- R83: the playthrough ends when LEN is 0 or the last row is reached. -/
theorem afterClimb_ends {m m' : Sim} (h : afterClimb m = .ok m') (hend : m.len = 0#2 ∨ m.y.toNat + 1 = 7) :
    m'.finished = true ∧ m'.y = 0#3 ∧ m'.seg = 0#6 := by
  obtain ⟨-, rfl⟩ | ⟨hlen, hy, -⟩ := afterClimb_cases h
  · exact ⟨rfl, rfl, rfl⟩
  · exact absurd hend (by simp only [hlen, false_or]; omega)

/-- R84 to R86: otherwise the Segment is rebuilt one row higher, and slid when TICKCNT is a multiple of 8. -/
theorem afterClimb_goes_on {m m' : Sim} (h : afterClimb m = .ok m') (hlen : m.len ≠ 0#2) (hy : m.y.toNat + 1 ≠ 7) :
    m'.finished = m.finished ∧ m'.y.toNat = m.y.toNat + 1
    ∧ m'.seg = if m.tickcnt.toNat % 8 = 0 then slideSeg (rebuiltSeg m.len) m.len else rebuiltSeg m.len := by
  obtain ⟨hend, -⟩ | ⟨-, hy6, rfl⟩ := afterClimb_cases h
  · exact absurd hend (by simp only [hlen, false_or]; exact hy)
  · refine ⟨settle_finished _, ?_, settle_seg _⟩
    rw [settle_y, BitVec.toNat_ofNat]
    omega

/-- Settles O29: the columns fill the Grid and charge LEN, and the steps after them end the playthrough or go on. -/
theorem climbingTick : Obligations.ClimbingTick := by
  intro s hb hc hinv hf hr
  obtain ⟨m1, m, hclimb, hafter, htick⟩ := tickSim_climb hinv hf hr
  obtain ⟨hgrid, hlen, hcnt⟩ := afterClimb_keeps hafter
  have hframe := climbColumns_frame hclimb
  have hy1 : m1.y = s.sim.y := by rw [hframe]; rfl
  have hf1 : m1.finished = false := by rw [hframe]; exact hf
  have hcnt1 : m1.tickcnt.toNat = nextCount s := by
    rw [hframe]
    exact countTick_tickcnt_toNat (tickBits_le hc) s.sim
  refine ⟨m, exec_tick_of_ok hb htick, fun i hi => ?grid, ?len, ?tickcnt, (afterClimb_rising_y hafter).1,
    fun hend => ?ends, fun hl hy => ?goesOn⟩
  case grid => rw [hgrid]; exact climbColumns_grid hclimb hi
  case len => rw [hlen]; exact climbColumns_len (m := countTick s.cfg.tickBits s.sim) hclimb
  case tickcnt => rw [hcnt, hcnt1]
  case ends => exact afterClimb_ends hafter (by rwa [hy1, ← hlen])
  case goesOn =>
    obtain ⟨hfin, hy', hseg⟩ := afterClimb_goes_on hafter (hlen ▸ hl) (hy1 ▸ hy)
    rw [hcnt1] at hseg
    refine ⟨hfin.trans hf1, hy1 ▸ hy', rebuiltSeg m.len, fun i hi => getLsbD_rebuiltSeg m.len ⟨i, hi⟩,
      fun hslide => ?_, fun hstay => ?_⟩
    · rw [hseg, if_pos hslide, ← hlen]
      exact slideSpec_slideSeg _ _
    · rw [hseg, if_neg hstay, hlen]

/-! ### What every TICK does -/

/-- R145: a TICK that completes leaves RISING 0, from any Simulation. -/
theorem tickSim_rising {tickBits : Nat} {m m' : Sim} (h : tickSim tickBits m = .ok m') : m'.rising = false := by
  obtain ⟨-, rfl⟩ | ⟨-, -, rfl⟩ | ⟨-, -, m1, -, hafter⟩ := tickSim_cases h
  · cases hr : m.rising with
    | true => rfl
    | false => exact hr
  · exact settle_rising _
  · exact (afterClimb_rising_y hafter).1

/-- Settles O31: TICK clears RISING in each of its cases, and PRESS writes RISING alone. -/
theorem pressAffectsOnlyTheNextTick : Obligations.PressAffectsOnlyTheNextTick := by
  intro s hb
  refine ⟨fun t ht => ?tick, ?repeated, ?lost, fun hbtn => ?period⟩
  case tick =>
    rw [exec_tick_idle hb] at ht
    obtain ⟨m, hm, rfl⟩ := tickOp_next ht
    exact tickSim_rising hm
  case repeated =>
    rw [exec_press_idle hb, andThen_next]
    exact exec_press_idle (s := { s with sim := pressSim s.sim }) hb
  case lost =>
    rw [exec_press_idle hb, andThen_next, exec_simInit_idle hb]
    exact exec_simInit_idle (s := { s with sim := pressSim s.sim }) hb
  case period =>
    have hsample : sampleOp true s = { s with btnPrev := true, sim := pressSim s.sim } := by
      rw [sampleOp_eq, if_pos ⟨hbtn, rfl⟩]
      rfl
    have hpress := exec_press_idle (s := { s with btnPrev := true }) hb
    rw [exec_period_eq_tick_frame hb, hsample, hpress, andThen_next]

/-- R24 (I5), R18: a TICK that is no restart empties no Grid cell and does not raise LEN. -/
theorem tickSim_grid_len {tickBits : Nat} {m m' : Sim} (h : tickSim tickBits m = .ok m')
    (hr : ¬ (m.finished = true ∧ m.rising = true)) :
    (∀ i, m.grid.getLsbD i = true → m'.grid.getLsbD i = true) ∧ m'.len.toNat ≤ m.len.toNat := by
  obtain ⟨hf, rfl⟩ | ⟨-, -, rfl⟩ | ⟨-, -, m1, hclimb, hafter⟩ := tickSim_cases h
  · rw [if_neg fun hrise => hr ⟨hf, hrise⟩]
    exact ⟨fun _ hi => hi, le_rfl⟩
  · rw [settle_grid, settle_len]
    exact ⟨fun _ hi => hi, le_rfl⟩
  · obtain ⟨hgrid, hlen, -⟩ := afterClimb_keeps hafter
    rw [hgrid, hlen]
    exact (climb_frame _ hclimb).2

/-- Settles O32: on the whole state TICK writes the Simulation it computes. -/
theorem gridGainsAndLenFalls : Obligations.GridGainsAndLenFalls := by
  intro s t hb ht hr
  rw [exec_tick_idle hb] at ht
  obtain ⟨m, hm, rfl⟩ := tickOp_next ht
  exact tickSim_grid_len hm hr

/-! ### The invariants of the Simulation -/

/-- R23, R24: a freshly constructed Simulation meets the invariants. -/
theorem simInv_init (tickBits : Nat) : SimInv tickBits Sim.init := by
  refine ⟨fun _ => by decide, fun _ => ⟨0, by decide⟩, nofun, by decide, fun _ i _ => ?_, ?_⟩
  · rw [init_grid, BitVec.getLsbD_zero]
  · exact Nat.two_pow_pos tickBits

/-- R24: the invariants of a Simulation that is not finished, from the start of its arc. -/
theorem simInv_of_arc {tickBits : Nat} {m : Sim} (hf : m.finished = false) (hlen : 1 ≤ m.len.toNat) (start : Fin 6)
    (harc : ArcFrom m.seg m.len.toNat start.val) (hy : m.y.toNat ≤ 6)
    (hgrid : ∀ i : Fin 42, m.y.toNat * 6 ≤ i.val → m.grid.getLsbD i.val = false)
    (hcnt : m.tickcnt.toNat < 2 ^ tickBits) : SimInv tickBits m :=
  ⟨fun _ => ⟨hlen, popcount_of_arcFrom harc⟩, fun _ => ⟨start, harc⟩,
    fun hfin => absurd hfin (Bool.eq_false_iff.1 hf), hy, fun _ => hgrid, hcnt⟩

/-- R24: the invariants of a finished Simulation. -/
theorem simInv_of_finished {tickBits : Nat} {m : Sim} (hf : m.finished = true) (hseg : m.seg = 0#6) (hy : m.y = 0#3)
    (hcnt : m.tickcnt.toNat < 2 ^ tickBits) : SimInv tickBits m :=
  ⟨fun hnf => absurd hf (Bool.eq_false_iff.1 hnf), fun hnf => absurd hf (Bool.eq_false_iff.1 hnf),
    fun _ => ⟨hseg, hy⟩, by rw [hy]; decide, fun hnf => absurd hf (Bool.eq_false_iff.1 hnf), hcnt⟩

/-- R22, R79: the counter stays within TICK_BITS bits. -/
theorem countTick_tickcnt_lt (tickBits : Nat) (m : Sim) : (countTick tickBits m).tickcnt.toNat < 2 ^ tickBits :=
  (Nat.mod_le _ _).trans_lt (Nat.mod_lt _ (Nat.two_pow_pos tickBits))

/-- R87: steps 4 and 5 keep an arc an arc. -/
theorem exists_arcFrom_settle {m : Sim} (hlen : 1 ≤ m.len.toNat) {start : Fin 6}
    (harc : ArcFrom m.seg m.len.toNat start.val) :
    ∃ start' : Fin 6, ArcFrom (settle m).seg (settle m).len.toNat start'.val := by
  rw [settle_seg, settle_len]
  split
  · exact ⟨⟨(start.val + 1) % 6, Nat.mod_lt _ (by decide)⟩, arcFrom_slideSeg hlen harc⟩
  · exact ⟨start, harc⟩

/-- R24, R85 to R87: steps 4 and 5 keep the invariants of a Simulation that is not finished. -/
theorem simInv_settle {tickBits : Nat} {m : Sim} (hf : m.finished = false) (h : SimInv tickBits m) :
    SimInv tickBits (settle m) := by
  obtain ⟨hlen, harc, -, hy, hgrid, hcnt⟩ := h
  obtain ⟨start, harc⟩ := harc hf
  obtain ⟨start', harc'⟩ := exists_arcFrom_settle (hlen hf).1 harc
  refine simInv_of_arc ((settle_finished m).trans hf) ?_ start' harc' ?_ ?_ ?_
  · rw [settle_len]; exact (hlen hf).1
  · rw [settle_y]; exact hy
  · rw [settle_y, settle_grid]; exact hgrid hf
  · rw [settle_tickcnt]; exact hcnt

/-- R24, R79: step 2 keeps the invariants. -/
theorem simInv_countTick {tickBits : Nat} {m : Sim} (h : SimInv tickBits m) :
    SimInv tickBits (countTick tickBits m) := by
  obtain ⟨hlen, harc, hfin, hy, hgrid, -⟩ := h
  exact ⟨hlen, harc, hfin, hy, hgrid, countTick_tickcnt_lt tickBits m⟩

/-- R24 (I4), R80: a climb fills no cell above row Y. -/
theorem climbColumns_grid_above {m m1 : Sim} (hclimb : climbColumns m = .ok m1)
    (hgrid : ∀ i : Fin 42, m.y.toNat * 6 ≤ i.val → m.grid.getLsbD i.val = false) (i : Fin 42)
    (hi : (m.y.toNat + 1) * 6 ≤ i.val) : m1.grid.getLsbD i.val = false := by
  have hrow : i.val / 6 ≠ m.y.toNat := by omega
  rw [climbColumns_grid hclimb i.isLt, hgrid i (by omega), decide_eq_false hrow]
  rfl

/-- R24, R80 to R86: a climb from the invariants ends in a Simulation that meets them. -/
theorem simInv_climb {tickBits : Nat} {m m1 m' : Sim} (h : SimInv tickBits m) (hf : m.finished = false)
    (hclimb : climbColumns m = .ok m1) (hafter : afterClimb m1 = .ok m') : SimInv tickBits m' := by
  obtain ⟨-, -, -, -, hgrid, hcnt⟩ := h
  have hframe := climbColumns_frame hclimb
  have hy1 : m1.y = m.y := climbColumns_y hclimb
  have hf1 : m1.finished = false := by rw [hframe]; exact hf
  have hcnt1 : m1.tickcnt.toNat < 2 ^ tickBits := by rw [hframe]; exact hcnt
  obtain ⟨-, rfl⟩ | ⟨hlen, hy6, rfl⟩ := afterClimb_cases hafter
  · exact simInv_of_finished rfl rfl rfl hcnt1
  · have hy' : (BitVec.ofNat 3 (m1.y.toNat + 1)).toNat = m1.y.toNat + 1 := by
      rw [BitVec.toNat_ofNat]
      omega
    refine simInv_settle hf1 (simInv_of_arc hf1 ?_ 0 (arcFrom_rebuiltSeg m1.len) ?_ ?_ hcnt1)
    · change 1 ≤ m1.len.toNat
      bv_omega
    · change (BitVec.ofNat 3 (m1.y.toNat + 1)).toNat ≤ 6
      omega
    · intro i hi
      change (BitVec.ofNat 3 (m1.y.toNat + 1)).toNat * 6 ≤ i.val at hi
      rw [hy', hy1] at hi
      exact climbColumns_grid_above hclimb (hgrid hf) i hi

/-- R24: TICK keeps the invariants. -/
theorem simInv_tickSim {tickBits : Nat} {m m' : Sim} (h : SimInv tickBits m) (ht : tickSim tickBits m = .ok m') :
    SimInv tickBits m' := by
  obtain ⟨-, rfl⟩ | ⟨hf, -, rfl⟩ | ⟨hf, -, m1, hclimb, hafter⟩ := tickSim_cases ht
  · split
    · exact simInv_init tickBits
    · exact h
  · exact simInv_settle hf (simInv_countTick h)
  · exact simInv_climb (simInv_countTick h) hf hclimb hafter

/-! ### Runs of PRESS and TICK -/

/-- R88: one pair more. -/
theorem pressTicks_succ {s : State} {m : Sim} (hb : s.stream.busy = false)
    (hm : tickSim s.cfg.tickBits (pressSim s.sim) = .ok m) (k : Nat) :
    pressTicks (k + 1) s = pressTicks k { s with sim := m } := by
  have htick := exec_tick_of_ok (s := { s with sim := pressSim s.sim }) hb hm
  rw [pressTicks, exec_press_idle hb, andThen_next, htick, andThen_next]

/-- R88: a pair of PRESS and TICK ends the playthrough at the last row or with LEN 0, and otherwise climbs one row. -/
theorem tickSim_pressSim {tickBits : Nat} {m : Sim} (hinv : SimInv tickBits m) (hf : m.finished = false) :
    ∃ m', tickSim tickBits (pressSim m) = .ok m' ∧ SimInv tickBits m'
      ∧ ((m'.finished = true ∧ (m'.len = 0#2 ∨ m.y.toNat + 1 = 7))
        ∨ (m'.finished = false ∧ m'.y.toNat = m.y.toNat + 1)) := by
  have hpress : SimInv tickBits (pressSim m) := hinv
  obtain ⟨m1, m', hclimb, hafter, htick⟩ := tickSim_climb hpress hf rfl
  obtain ⟨-, hlen, -⟩ := afterClimb_keeps hafter
  have hy1 : m1.y = m.y := (climbColumns_y hclimb).trans rfl
  have hf1 : m1.finished = false := by rw [climbColumns_frame hclimb]; exact hf
  refine ⟨m', htick, simInv_tickSim hpress htick, ?_⟩
  by_cases hend : m1.len = 0#2 ∨ m1.y.toNat + 1 = 7
  · exact .inl ⟨(afterClimb_ends hafter hend).1, by rwa [hlen, ← hy1]⟩
  · rw [not_or] at hend
    obtain ⟨hfin, hy, -⟩ := afterClimb_goes_on hafter hend.1 hend.2
    exact .inr ⟨hfin.trans hf1, hy1 ▸ hy⟩

/-- R88: with `n` rows left, at most `n` pairs finish the playthrough, and fewer only with LEN 0. -/
theorem pressTicks_finish (n : Nat) : ∀ {s : State}, s.stream.busy = false → SimInv s.cfg.tickBits s.sim →
    s.sim.finished = false → s.sim.y.toNat + n = 7 →
    ∃ k t, 1 ≤ k ∧ k ≤ n ∧ pressTicks k s = .next t ∧ t.sim.finished = true ∧ (k < n → t.sim.len = 0#2) := by
  induction n with
  | zero =>
    intro s _ ⟨_, _, _, hy, _, _⟩ _ hn
    omega
  | succ n ih =>
    intro s hb hinv hf hn
    obtain ⟨m, hm, hinv', ⟨hfin, hend⟩ | ⟨hnf, hy⟩⟩ := tickSim_pressSim hinv hf
    · refine ⟨1, { s with sim := m }, le_rfl, by omega, pressTicks_succ hb hm 0, hfin, fun hlt => ?_⟩
      exact hend.resolve_right (by omega)
    · obtain ⟨k, t, hk, hkn, hrun, hfin, hlen⟩ := ih (s := { s with sim := m }) hb hinv' hnf
        (by change m.y.toNat + n = 7; omega)
      exact ⟨k + 1, t, by omega, by omega, (pressTicks_succ hb hm k).trans hrun, hfin, fun hlt => hlen (by omega)⟩

/-- Settles O33, by induction on the rows left. -/
theorem playthroughFinishesWithinSevenClimbs : Obligations.PlaythroughFinishesWithinSevenClimbs := by
  intro s hb _ hinv hf
  obtain ⟨-, -, -, hy, -, -⟩ := id hinv
  obtain ⟨k, t, hk, hkn, hrun, hfin, hlen⟩ := pressTicks_finish (7 - s.sim.y.toNat) hb hinv hf (by omega)
  exact ⟨k, t, hk, by omega, hrun, hfin, fun hlt => hlen (by omega)⟩

end Sys2Proof.Machine
end

section
/-! What BUILD loads (R91 to R95): the shape of the objects it emits and their number. -/

namespace Sys2Proof.Machine

/-- R92, R93: every object BUILD emits is a 24×24 square of asset 0, in a column that is a multiple of 24. -/
theorem builtObjects_shape {m : Sim} {o : DrawObject} (h : o ∈ builtObjects m) :
    o.asset = 0#8 ∧ o.w = 24#8 ∧ o.h = 24#8 ∧ o.x.toNat % 8 = 0 := by
  obtain hgrid | hseg := List.mem_append.1 h
  · obtain ⟨i, -, rfl⟩ := List.mem_map.1 hgrid
    refine ⟨rfl, rfl, rfl, ?_⟩
    rw [objGrid, BitVec.toNat_ofNat]
    omega
  · obtain ⟨i, -, rfl⟩ := List.mem_map.1 hseg
    refine ⟨rfl, rfl, rfl, ?_⟩
    rw [objSeg, BitVec.toNat_ofNat]
    omega

/-- R91, D25: an entry after a load is an object loaded or the old entry. -/
theorem loadObjects_entry_cases (objs : List DrawObject) (d : FrameDesc) (k : Fin 48) :
    (loadObjects objs d).entries[k] ∈ objs ∨ (loadObjects objs d).entries[k] = d.entries[k] := by
  obtain hlt | hge := Nat.lt_or_ge k.val objs.length
  · refine .inl ?_
    rw [loadObjects_entry, List.getD_eq_getElem _ _ hlt]
    exact List.getElem_mem hlt
  · exact .inr (loadObjects_entry_of_length_le hge d)

/-- R25, R26: BUILD keeps the count at most 48 and the widths multiples of 8. -/
theorem frameInv_loadObjects (m : Sim) {d : FrameDesc} (h : FrameInv d) :
    FrameInv (loadObjects (builtObjects m) d) := by
  have hcap := builtObjects_length_le m
  refine ⟨by rwa [loadObjects_count _ d hcap], fun k => ?_⟩
  obtain hmem | hold := loadObjects_entry_cases (builtObjects m) d k
  · obtain ⟨-, hw, -, -⟩ := builtObjects_shape hmem
    rw [hw]
    rfl
  · rw [hold]
    exact h.2 k

/-- R18, R24 (I1): under the invariants at most 3 Segment cells are Filled. -/
theorem popcount_seg_le {tickBits : Nat} {m : Sim} (h : SimInv tickBits m) : popcount m.seg ≤ 3 := by
  obtain ⟨hlen, -, hfin, -, -, -⟩ := h
  cases hf : m.finished with
  | true =>
    rw [(hfin hf).1]
    decide
  | false =>
    rw [(hlen hf).2]
    have := m.len.isLt
    omega

/-- Settles O36: the Grid has 42 cells and the Segment 6, of which the invariants let LEN be Filled. -/
theorem buildNeverOverflowsOam : Obligations.BuildNeverOverflowsOam := by
  intro s t hb ht
  rw [exec_build, unlessBusy_idle hb] at ht
  obtain ⟨-, rfl⟩ := buildOp_next ht
  have hcount := loadObjects_builtObjects_count s.sim s.oam
  have hgrid := popcount_le s.sim.grid
  have hseg := popcount_le s.sim.seg
  refine ⟨hcount, ?_, fun hinv => ?_⟩
  · exact hcount.trans_le (by omega)
  · have hseg3 := popcount_seg_le hinv
    exact hcount.trans_le (by omega)

/-! ### FRAME after FRAME -/

/-- R91: loading the same objects again changes nothing. -/
theorem loadObjects_loadObjects (objs : List DrawObject) (d : FrameDesc) :
    loadObjects objs (loadObjects objs d) = loadObjects objs d := by
  have hentries : (loadObjects objs (loadObjects objs d)).entries = (loadObjects objs d).entries := by
    refine Vector.ext fun k hk => ?_
    have htwice := loadObjects_entry objs (loadObjects objs d) ⟨k, hk⟩
    refine htwice.trans ?_
    obtain hlt | hge := Nat.lt_or_ge k objs.length
    · have honce := loadObjects_entry objs d ⟨k, hk⟩
      rw [List.getD_eq_getElem _ _ hlt] at honce ⊢
      exact honce.symm
    · exact List.getD_eq_default _ _ hge
  exact congrArg (FrameDesc.mk _) hentries

/-- R91, R93: BUILD completes when no Segment cell is Filled, or the height is in range. -/
theorem buildOp_of_heightOk {s : State} (h : s.sim.seg = 0#6 ∨ s.sim.y.toNat ≤ 6) :
    buildOp s = .next (s.setOam (loadObjects (builtObjects s.sim) s.oam)) := by
  have hok : ¬ (s.sim.seg ≠ 0#6 ∧ 6 < s.sim.y.toNat) := by
    rintro ⟨hseg, hy⟩
    exact h.elim hseg (fun hle => by omega)
  rw [buildOp, buildFrame, if_neg hok]

theorem frameEq_self (d : FrameDesc) : frameEq d d = true := (frameEq_iff d d).2 ⟨rfl, fun _ _ => rfl⟩

/-- R115: after the render trigger PREV is valid and equal to the OAM. -/
theorem triggerOp_prev (s : State) :
    (triggerOp s).sim = s.sim ∧ (triggerOp s).oam = s.oam ∧ (triggerOp s).prevValid = true
    ∧ frameEq (triggerOp s).oam (triggerOp s).prev = true := by
  obtain ⟨-, htrig⟩ | ⟨hvalid, heq, htrig⟩ := triggerOp_cases s
  · rw [htrig]
    exact ⟨rfl, rfl, rfl, frameEq_self s.oam⟩
  · rw [htrig]
    exact ⟨rfl, rfl, hvalid, heq⟩

/-- R115: if FRAME answers a next state, BUILD completes there again and gives the same OAM, and PREV is that OAM. -/
theorem frameOp_next {s t : State} (h : frameOp s = .next t) :
    (t.sim.seg = 0#6 ∨ t.sim.y.toNat ≤ 6) ∧ loadObjects (builtObjects t.sim) t.oam = t.oam
    ∧ t.prevValid = true ∧ frameEq t.oam t.prev = true := by
  obtain ⟨u, hu, htrig⟩ := andThen_eq_next.1 h
  obtain ⟨hheight, rfl⟩ := buildOp_next hu
  cases htrig
  obtain ⟨hsim, hoam, hvalid, heq⟩ := triggerOp_prev (s.setOam (loadObjects (builtObjects s.sim) s.oam))
  refine ⟨?_, ?_, hvalid, heq⟩
  · rw [hsim]
    exact hheight
  · rw [hsim, hoam]
    exact loadObjects_loadObjects (builtObjects s.sim) s.oam

/-- Settles O51: the second BUILD changes nothing, so the trigger finds PREV equal to the OAM. -/
theorem secondFrameIsSuppressed : Obligations.SecondFrameIsSuppressed := by
  intro s t hidle ht
  rw [exec_frame_idle (by rw [hidle]; rfl)] at ht
  obtain ⟨hheight, hload, hvalid, heq⟩ := frameOp_next ht
  have hbuild : buildOp { t with stream := Stream.idle } = .next { t with stream := Stream.idle } := by
    rw [buildOp_of_heightOk (s := { t with stream := Stream.idle }) hheight]
    exact congrArg (fun d => Host.Outcome.next { t with stream := Stream.idle, oam := d }) hload
  rw [exec_frame_idle (s := { t with stream := Stream.idle }) rfl, frameOp, hbuild, andThen_next,
    triggerOp_of_same (s := { t with stream := Stream.idle }) hvalid heq]

end Sys2Proof.Machine
end

section
/-! The invariant of the block (R24, R26, R30, R33, R34, R106, R137): it holds at reset, every operation of a block that
is not held in reset keeps it, and under it every step answers a next state. -/

namespace Sys2Proof.Machine

/-! ### While RESET is 0 -/

/-- The invariant of a block whose RESET input is 0, where R137 asks nothing more. -/
structure LiveInv (s : State) : Prop where
  wellFormed : s.cfg.wellFormed = true
  sim : SimInv s.cfg.tickBits s.sim
  oam : FrameInv s.oam
  prev : FrameInv s.prev
  stream : StreamInv s.stream
  errinfo : ErrInv s.errinfo
  dispEn : s.cfg.hasDispLine = false → s.dispEn = false
  released : s.resetLine = false

theorem liveInv_iff (s : State) : LiveInv s ↔ Inv s ∧ s.resetLine = false := by
  constructor
  · rintro ⟨hc, hsim, hoam, hprev, hstream, herr, hdisp, hl⟩
    exact ⟨⟨hc, hsim, hoam, hprev, hstream, herr, hdisp, fun hreset => absurd hreset (Bool.eq_false_iff.1 hl)⟩, hl⟩
  · rintro ⟨⟨hc, hsim, hoam, hprev, hstream, herr, hdisp, -⟩, hl⟩
    exact ⟨hc, hsim, hoam, hprev, hstream, herr, hdisp, hl⟩

theorem LiveInv.inv {s : State} (h : LiveInv s) : Inv s := ((liveInv_iff s).1 h).1

/-! ### One field each -/

theorem LiveInv.setSim {s : State} {m : Sim} (h : LiveInv s) (hm : SimInv s.cfg.tickBits m) : LiveInv (s.setSim m) :=
  { h with sim := hm }

theorem LiveInv.setOam {s : State} {d : FrameDesc} (h : LiveInv s) (hd : FrameInv d) : LiveInv (s.setOam d) :=
  { h with oam := hd }

theorem LiveInv.setStream {s : State} {st : Stream} (h : LiveInv s) (hst : StreamInv st) : LiveInv (s.setStream st) :=
  { h with stream := hst }

theorem LiveInv.setBtnPrev {s : State} (h : LiveInv s) (b : Bool) : LiveInv (s.setBtnPrev b) := { h with }

theorem LiveInv.setDrawn {s : State} (h : LiveInv s) (b : Bool) : LiveInv (s.setDrawn b) := { h with }

theorem LiveInv.logBus {s : State} (h : LiveInv s) (r : BusResponse) : LiveInv (s.logBus r) := { h with }

theorem LiveInv.logPanel {s : State} (h : LiveInv s) (p : PanelTransfer) : LiveInv (s.logPanel p) := { h with }

/-! ### Shared operations -/

/-- R33: an error record that names no byte holds zeros. -/
theorem errInv_plainError (c : Cause) : ErrInv (plainError c) :=
  ⟨Nat.zero_le 167, Nat.zero_le 19, fun _ => ⟨rfl, rfl, rfl⟩⟩

theorem LiveInv.raiseBusyWrite {s : State} (h : LiveInv s) : LiveInv (raiseBusyWrite s) :=
  { h with errinfo := errInv_plainError .busyWrite }

theorem LiveInv.raiseReservedOpcode {s : State} (h : LiveInv s) : LiveInv (raiseReservedOpcode s) :=
  { h with errinfo := errInv_plainError .reservedOpcode }

/-- R120: an operation that keeps the invariant keeps it under the BUSY check too. -/
theorem LiveInv.unlessBusy {s t : State} {f : State → Result} (h : LiveInv s) (hf : f s = .next t → LiveInv t)
    (ht : unlessBusy s f = .next t) : LiveInv t := by
  obtain ⟨-, rfl⟩ | ⟨-, hop⟩ := unlessBusy_cases ht
  · exact h.raiseBusyWrite
  · exact hf hop

/-- R120: so does one that always answers a next state. -/
theorem LiveInv.unlessBusy_next {s t : State} {f : State → State} (h : LiveInv s) (hf : LiveInv (f s))
    (ht : Machine.unlessBusy s (fun s => .next (f s)) = .next t) : LiveInv t :=
  h.unlessBusy (fun hop => by cases hop; exact hf) ht

theorem streamInv_idle : StreamInv Stream.idle := ⟨by decide, by decide, rfl, fun _ => rfl⟩

/-- R106, R108: a stream starts at position 0 with CS at 1. -/
theorem streamInv_startedStream (ff : Bool) : StreamInv (startedStream ff) :=
  ⟨Nat.zero_le 167, Nat.zero_le 19, rfl, nofun⟩

/-! ### Commands -/

theorem LiveInv.pressOp {s : State} (h : LiveInv s) : LiveInv (pressOp s) := h.setSim (m := pressSim s.sim) h.sim

theorem LiveInv.tickOp {s t : State} (h : LiveInv s) (ht : tickOp s = .next t) : LiveInv t := by
  obtain ⟨m, hm, rfl⟩ := tickOp_next ht
  exact h.setSim (simInv_tickSim h.sim hm)

theorem LiveInv.buildOp {s t : State} (h : LiveInv s) (ht : buildOp s = .next t) : LiveInv t := by
  obtain ⟨-, rfl⟩ := buildOp_next ht
  exact h.setOam (frameInv_loadObjects s.sim h.oam)

/-- R115: PREV takes the OAM, and the stream starts; or only DRAWN changes. -/
theorem LiveInv.triggerOp {s : State} (h : LiveInv s) : LiveInv (triggerOp s) := by
  obtain ⟨-, htrig⟩ | ⟨-, -, htrig⟩ := triggerOp_cases s
  · rw [htrig]
    exact { h with prev := h.oam, stream := streamInv_startedStream true }
  · rw [htrig]
    exact h.setDrawn false

theorem LiveInv.frameOp {s t : State} (h : LiveInv s) (ht : frameOp s = .next t) : LiveInv t := by
  obtain ⟨u, hu, htrig⟩ := andThen_eq_next.1 ht
  cases htrig
  exact (h.buildOp hu).triggerOp

theorem LiveInv.sampleOp {s : State} (h : LiveInv s) (btn : Bool) : LiveInv (sampleOp btn s) := by
  unfold Machine.sampleOp
  split
  · exact (h.setBtnPrev btn).pressOp
  · exact h.setBtnPrev btn

theorem LiveInv.periodOp {s t : State} {btn : Bool} (h : LiveInv s) (ht : periodOp btn s = .next t) : LiveInv t := by
  obtain ⟨u, hu, hframe⟩ := andThen_eq_next.1 ht
  exact ((h.sampleOp btn).tickOp hu).frameOp hframe

/-- Every command keeps the invariant. -/
theorem LiveInv.exec {s t : State} {i : Instr} (h : LiveInv s) (ht : exec i s = .next t) : LiveInv t := by
  cases i with
  | nop => exact h.unlessBusy_next h ((exec_nop s).symm.trans ht)
  | press => exact h.unlessBusy_next h.pressOp ((exec_press s).symm.trans ht)
  | tick => exact h.unlessBusy h.tickOp ((exec_tick s).symm.trans ht)
  | simInit => exact h.unlessBusy_next (h.setSim (simInv_init _)) ((exec_simInit s).symm.trans ht)
  | build => exact h.unlessBusy h.buildOp ((exec_build s).symm.trans ht)
  | compose => exact h.unlessBusy_next (h.setStream (streamInv_startedStream false)) ((exec_compose s).symm.trans ht)
  | frame => exact h.unlessBusy h.frameOp ((exec_frame s).symm.trans ht)
  | period btn => exact h.unlessBusy h.periodOp ((exec_period btn s).symm.trans ht)

/-! ### The register window -/

theorem LiveInv.writeCmd {s t : State} {v : Word} (h : LiveInv s) (ht : writeCmd v s = .next t) : LiveInv t := by
  unfold Machine.writeCmd at ht
  split at ht
  · exact h.exec ht
  · exact h.unlessBusy_next h.raiseReservedOpcode ht

/-- R52: DISP_EN changes only where the display-enable line exists. -/
theorem LiveInv.writeCtrl {s : State} (h : LiveInv s) (v : Word) : LiveInv (writeCtrl v s) := by
  unfold Machine.writeCtrl
  split
  · next hline => exact { h with dispEn := fun hno => absurd hline (Bool.eq_false_iff.1 hno) }
  · exact h

/-- R38: the clamp keeps the count at most 48. -/
theorem frameInv_clampCount {d : FrameDesc} (h : FrameInv d) (v : Word) : FrameInv { d with count := clampCount v } :=
  ⟨(clampCount_toNat v).trans_le (Nat.min_le_right _ _), h.2⟩

theorem frameInv_setEntry {d : FrameDesc} (h : FrameInv d) (k : Fin 48) {o : DrawObject} (ho : o.w.toNat % 8 = 0) :
    FrameInv (setEntry d k o) := by
  refine ⟨h.1, fun j => ?_⟩
  by_cases hj : j = k
  · rw [hj, setEntry_entry_same]
    exact ho
  · rw [setEntry_entry_other d o hj]
    exact h.2 j

/-- R39: a width whose low three bits are dropped is a multiple of 8. -/
theorem and_f8_toNat_mod (b : Byte) : (b &&& 0xF8#8).toNat % 8 = 0 := by
  have hmask : (b &&& 0xF8#8) &&& 7#8 = 0#8 := by
    rw [BitVec.and_assoc, show (0xF8#8 &&& 7#8) = 0#8 by decide, BitVec.and_zero]
  have hlow := congrArg BitVec.toNat hmask
  rw [BitVec.toNat_and] at hlow
  exact (Nat.and_two_pow_sub_one_eq_mod _ 3).symm.trans hlow

/-- R48 to R53: every write keeps the invariant. -/
theorem LiveInv.writeReg {s t : State} {r : Reg} {v : Word} (h : LiveInv s) (ht : writeReg r v s = .next t) :
    LiveInv t := by
  obtain ⟨-, hcmd⟩ | ⟨-, rfl⟩ | ⟨-, rfl⟩ | ⟨-, rfl⟩ | ⟨-, -, rfl⟩ | ⟨-, -, rfl⟩ | ⟨k, -, -, rfl⟩ | ⟨k, -, -, rfl⟩ :=
    writeReg_cases ht
  · exact h.writeCmd hcmd
  · exact { h with }
  · exact h.writeCtrl v
  · exact h
  · exact h.raiseBusyWrite
  · exact h.setOam (frameInv_clampCount h.oam v)
  · exact h.setOam (frameInv_setEntry h.oam k (h.oam.2 k))
  · exact h.setOam (frameInv_setEntry h.oam k (and_f8_toNat_mod _))

/-! ### The stream engine -/

/-- R106, R109: an accepted byte of a running stream leaves the position within the frame. -/
theorem LiveInv.advance {s : State} (h : LiveInv s) (hb : s.stream.busy = true) : LiveInv (advance s) := by
  obtain ⟨hrow, hbyte, hcs, -⟩ := h.stream
  have hbusy {P : Prop} (hidle : s.stream.busy = false) : P := absurd hb (Bool.eq_false_iff.1 hidle)
  obtain ⟨hlt, hadv⟩ | ⟨-, hlt, hadv⟩ | ⟨-, -, hadv⟩ := advance_cases s
  · rw [hadv]
    refine h.setStream ⟨hrow, ?_, hcs, hbusy⟩
    change (s.stream.posByte + 1#5).toNat ≤ 19
    bv_omega
  · rw [hadv]
    refine h.setStream ⟨?_, Nat.zero_le 19, hcs, hbusy⟩
    change (s.stream.posRow + 1#8).toNat ≤ 167
    bv_omega
  · rw [hadv]
    exact h.setStream streamInv_idle

/-- R33, R122: a transport error names a position of the frame. -/
theorem LiveInv.raiseTransport {s : State} {row : BitVec 8} {byte : BitVec 5} (h : LiveInv s) (hrow : row.toNat ≤ 167)
    (hbyte : byte.toNat ≤ 19) (code : BitVec 8) : LiveInv (raiseTransport row byte code s) := by
  rw [raiseTransport_eq]
  exact { h with errinfo := ⟨hrow, hbyte, fun hne => absurd rfl hne⟩, stream := streamInv_idle }

theorem LiveInv.takeAnswer {s : State} (h : LiveInv s) (a : Answer) : LiveInv (takeAnswer a s) := by
  obtain ⟨-, hkeep⟩ | ⟨hrun, -, hadv⟩ | ⟨-, code, -, herr⟩ := takeAnswer_cases a s
  · rwa [hkeep]
  · rw [hadv]
    exact (h.logPanel _).advance (Bool.and_eq_true_iff.1 hrun).1
  · obtain ⟨hrow, hbyte, -, -⟩ := h.stream
    rw [herr]
    exact (h.logPanel _).raiseTransport hrow hbyte code

/-! ### RESET, and what reset keeps -/

theorem frameInv_zero : FrameInv FrameDesc.zero := ⟨Nat.zero_le 48, fun k => by rw [zero_entry]; rfl⟩

/-- R41: the invariant holds right after reset. -/
theorem liveInv_resetOf {c : Config} (hc : c.wellFormed = true) : LiveInv (State.resetOf c) where
  wellFormed := hc
  sim := simInv_init c.tickBits
  oam := frameInv_zero
  prev := frameInv_zero
  stream := streamInv_idle
  errinfo := errInv_plainError .none
  dispEn := fun _ => rfl
  released := rfl

/-- R137: the invariant holds while RESET is held at 1. -/
theorem inv_enterReset {s : State} (hc : s.cfg.wellFormed = true) : Inv (enterReset s) := by
  obtain ⟨hc, hsim, hoam, hprev, hstream, herr, hdisp, -⟩ := liveInv_resetOf hc
  exact ⟨hc, hsim, hoam, hprev, hstream, herr, hdisp, fun _ => rfl⟩

/-- R137: RESET going back to 0 keeps the invariant. -/
theorem inv_release {s : State} (h : Inv s) : Inv (s.setResetLine false) := by
  obtain ⟨hc, hsim, hoam, hprev, hstream, herr, hdisp, -⟩ := h
  exact ⟨hc, hsim, hoam, hprev, hstream, herr, hdisp, nofun⟩

theorem inv_driveReset {s : State} (h : Inv s) (level : Bool) : Inv (driveReset level s) := by
  cases level with
  | true => exact inv_enterReset h.1
  | false => exact inv_release h

/-- R61: the invariant does not speak of what is still to come; reset keeps it too. -/
theorem inv_setInbox {s : State} (h : Inv s) (es : List Event) : Inv (s.setInbox es) := by
  obtain ⟨hc, hsim, hoam, hprev, hstream, herr, hdisp, hreset⟩ := h
  exact ⟨hc, hsim, hoam, hprev, hstream, herr, hdisp, fun hr => congrArg (State.setInbox · es) (hreset hr)⟩

/-- R61: nor of what was answered. -/
theorem inv_logBus {s : State} (h : Inv s) (r : BusResponse) : Inv (s.logBus r) := by
  obtain ⟨hc, hsim, hoam, hprev, hstream, herr, hdisp, hreset⟩ := h
  exact ⟨hc, hsim, hoam, hprev, hstream, herr, hdisp, fun hr => congrArg (State.logBus · r) (hreset hr)⟩

/-- Settles O57: this hardware's configuration is one of the well-formed ones, whatever its open parameters are. -/
theorem invariantHoldsAtReset : Obligations.InvariantHoldsAtReset := by
  have hreset (c : Config) (hc : c.wellFormed = true) : Inv (State.resetOf c) := (liveInv_resetOf hc).inv
  exact ⟨hreset Config.hardware rfl, hreset⟩

/-! ### One step -/

/-- R139: an answer of the transport keeps the invariant, while RESET is 1 too. -/
theorem inv_takeAnswer {s : State} (h : Inv s) (a : Answer) : Inv (takeAnswer a s) := by
  cases hr : s.resetLine with
  | true => rwa [takeAnswer_of_reset hr]
  | false => exact (((liveInv_iff s).2 ⟨h, hr⟩).takeAnswer a).inv

/-- R14: every event keeps the invariant. -/
theorem inv_takeEvent {e : Event} {s t : State} (h : Inv s) (ht : takeEvent e s = .next t) : Inv t := by
  obtain ⟨rfl, -⟩ | ⟨r, rfl, -⟩ | ⟨a, v, off, r, -, -, -, hrl, hw⟩ | ⟨a, -, rfl⟩ | ⟨b, -, rfl⟩ := takeEvent_cases ht
  · exact h
  · exact inv_logBus h r
  · exact ((((liveInv_iff s).2 ⟨h, hrl⟩).logBus .done).writeReg hw).inv
  · exact inv_takeAnswer h a
  · exact inv_driveReset h b

/-- Settles O58: a step takes the next event, and every event keeps the invariant. -/
theorem everyStepKeepsInvariant : Obligations.EveryStepKeepsInvariant := by
  intro s t h ht
  cases hin : s.inbox with
  | nil =>
    rw [step_nil h.1 hin] at ht
    cases ht
    exact h
  | cons e rest => exact inv_takeEvent (inv_setInbox h rest) (takeEvent_of_step hin ht)

/-! ### No step stops -/

/-- R50, R89: under the invariants of the Simulation every command completes, whether or not a stream runs. -/
theorem exec_completes {s : State} (h : SimInv s.cfg.tickBits s.sim) (i : Instr) : ∃ t, exec i s = .next t := by
  cases hb : s.stream.busy with
  | true => exact ⟨_, exec_of_busy hb i⟩
  | false =>
    obtain ⟨-, -, -, hy, -, -⟩ := id h
    cases i with
    | nop => exact ⟨_, exec_nop_idle hb⟩
    | press => exact ⟨_, exec_press_idle hb⟩
    | tick =>
      obtain ⟨m, hm⟩ := tickSim_ok h
      exact ⟨_, exec_tick_of_ok hb hm⟩
    | simInit => exact ⟨_, exec_simInit_idle hb⟩
    | build => exact ⟨_, exec_build_idle hb hy⟩
    | compose => exact ⟨_, exec_compose_idle hb⟩
    | frame => exact ⟨_, (exec_frame_idle hb).trans (frameOp_ok hy)⟩
    | period btn =>
      obtain ⟨m, -, hm⟩ := exec_period_ok hb h btn
      exact ⟨_, hm⟩

/-- R49, R73: so does every write to CMD. -/
theorem writeCmd_completes {s : State} (h : SimInv s.cfg.tickBits s.sim) (v : Word) : ∃ t, writeCmd v s = .next t := by
  cases hd : decode v with
  | ok i =>
    rw [writeCmd_of_ok hd]
    exact exec_completes h i
  | error e =>
    cases hb : s.stream.busy with
    | true => exact ⟨_, writeCmd_of_busy hb v⟩
    | false => exact ⟨_, writeCmd_of_error hd hb⟩

/-- R48 to R53: so does every performed write. -/
theorem writeReg_completes {s : State} (h : SimInv s.cfg.tickBits s.sim) (r : Reg) (v : Word) :
    ∃ t, writeReg r v s = .next t := by
  cases hb : s.stream.busy with
  | true =>
    cases r with
    | cmd => exact writeCmd_completes h v
    | oamCount => exact ⟨_, writeReg_of_busy hb (.inr (.inl rfl)) v⟩
    | oamW0 k => exact ⟨_, writeReg_of_busy hb (.inr (.inr (.inl ⟨k, rfl⟩))) v⟩
    | oamW1 k => exact ⟨_, writeReg_of_busy hb (.inr (.inr (.inr ⟨k, rfl⟩))) v⟩
    | _ => exact ⟨_, rfl⟩
  | false =>
    cases r with
    | cmd => exact writeCmd_completes h v
    | oamCount => exact ⟨_, writeReg_oamCount hb v⟩
    | oamW0 k => exact ⟨_, writeReg_oamW0 hb k v⟩
    | oamW1 k => exact ⟨_, writeReg_oamW1 hb k v⟩
    | _ => exact ⟨_, rfl⟩

/-- R119: a read completes, performed or not. -/
theorem hostRead_completes (a : BusAddr) (size : Nat) (s : State) : ∃ t, hostRead a size s = .next t := by
  unfold hostRead readAt
  split
  · split <;> exact ⟨_, rfl⟩
  · exact ⟨_, rfl⟩

/-- R119: so does a write. -/
theorem hostWrite_completes {s : State} (h : SimInv s.cfg.tickBits s.sim) (a : BusAddr) (size : Nat) (v : Word) :
    ∃ t, hostWrite a size v s = .next t := by
  unfold hostWrite writeAt
  split
  · split
    · exact writeReg_completes (s := s.logBus .done) h _ v
    · exact ⟨_, rfl⟩
  · exact ⟨_, rfl⟩

/-- R14: every event is taken. -/
theorem takeEvent_completes {s : State} (h : SimInv s.cfg.tickBits s.sim) (e : Event) :
    ∃ t, takeEvent e s = .next t := by
  cases e with
  | read a size => exact hostRead_completes a size s
  | write a size v => exact hostWrite_completes h a size v
  | answer a => exact ⟨_, rfl⟩
  | lateAnswer a => exact ⟨_, rfl⟩
  | resetLine b => exact ⟨_, rfl⟩

/-- Settles O59: the configuration passes R8, and no event stops the block. -/
theorem invariantStatesNeverStop : Obligations.InvariantStatesNeverStop := by
  rintro s ⟨hc, hsim, -⟩
  cases hin : s.inbox with
  | nil => exact ⟨s, step_nil hc hin⟩
  | cons e rest =>
    obtain ⟨t, ht⟩ := takeEvent_completes (s := s.setInbox rest) hsim e
    exact ⟨t, (step_cons hc hin).trans ht⟩

/-! ### What a command may write -/

/-- R71: each command writes only its own parts of the state while no stream runs; PERIOD may write all of them. -/
theorem exec_writes {i : Instr} {s t : State} (hb : s.stream.busy = false) (h : exec i s = .next t) :
    (∃ m, t = { s with sim := m })
    ∨ (∃ d, i = .build ∧ t = { s with oam := d })
    ∨ (∃ st, i = .compose ∧ t = { s with stream := st })
    ∨ (∃ d p pv dr st, i = .frame ∧ t = { s with oam := d, prev := p, prevValid := pv, drawn := dr, stream := st })
    ∨ ∃ b, i = .period b := by
  cases i with
  | nop =>
    rw [exec_nop_idle hb] at h
    cases h
    exact .inl ⟨s.sim, rfl⟩
  | press =>
    rw [exec_press_idle hb] at h
    cases h
    exact .inl ⟨_, rfl⟩
  | tick =>
    rw [exec_tick_idle hb] at h
    obtain ⟨m, -, rfl⟩ := tickOp_next h
    exact .inl ⟨m, rfl⟩
  | simInit =>
    rw [exec_simInit_idle hb] at h
    cases h
    exact .inl ⟨_, rfl⟩
  | build =>
    rw [exec_build, unlessBusy_idle hb] at h
    obtain ⟨-, rfl⟩ := buildOp_next h
    exact .inr (.inl ⟨_, rfl, rfl⟩)
  | compose =>
    rw [exec_compose_idle hb] at h
    cases h
    exact .inr (.inr (.inl ⟨_, rfl, rfl⟩))
  | frame =>
    rw [exec_frame_idle hb] at h
    obtain ⟨u, hu, htrig⟩ := andThen_eq_next.1 h
    obtain ⟨-, rfl⟩ := buildOp_next hu
    cases htrig
    obtain ⟨p, st, htrigger, -⟩ := triggerOp_frame (s := s.setOam (loadObjects (builtObjects s.sim) s.oam)) hb
    rw [htrigger]
    exact .inr (.inr (.inr (.inl ⟨_, p, true, st.busy, st, rfl, rfl⟩)))
  | period b => exact .inr (.inr (.inr (.inr ⟨b, rfl⟩)))

/-- Settles O53: the commands complete, and what each writes is its own. -/
theorem everyCommandCompletes : Obligations.EveryCommandCompletes := by
  rintro s i ⟨-, hsim, -⟩ hb
  obtain ⟨t, ht⟩ := exec_completes hsim i
  obtain ⟨hbusy, -⟩ | ⟨-, hframe⟩ := exec_frame_fields ht
  · rw [hb] at hbusy
    cases hbusy
  · refine ⟨t, ht, hframe, exec_sim ht, ?_⟩
    obtain ⟨m, rfl⟩ | ⟨d, rfl, rfl⟩ | ⟨st, rfl, rfl⟩ | ⟨d, p, pv, dr, st, rfl, rfl⟩ | ⟨b, rfl⟩ := exec_writes hb ht
    all_goals simp

end Sys2Proof.Machine
end

section
/-! Steps that leave the stream and the error record alone (R110, R124, R142, R146). -/

namespace Sys2Proof.Machine

/-! ### While a stream runs -/

/-- R120: while a stream runs, a write changes the error record and CTRL at most. -/
theorem writeReg_busy_frame {r : Reg} {v : Word} {s t : State} (hb : s.stream.busy = true)
    (h : writeReg r v s = .next t) :
    t = { s with terr := t.terr, cerr := t.cerr, errinfo := t.errinfo, dispEn := t.dispEn } := by
  obtain ⟨-, hcmd⟩ | ⟨-, rfl⟩ | ⟨-, rfl⟩ | ⟨-, rfl⟩ | ⟨-, -, rfl⟩ | ⟨-, hidle, -⟩ | ⟨_, -, hidle, -⟩
    | ⟨_, -, hidle, -⟩ := writeReg_cases h
  · rw [writeCmd_of_busy hb] at hcmd
    cases hcmd
    rfl
  · rfl
  · rw [writeCtrl_eq]
  · rfl
  · rfl
  all_goals exact absurd hb (Bool.eq_false_iff.1 hidle)

/-- R142: while a stream runs, an event that is not RESET going to 1 keeps the Simulation and the OAM, and only an
answer of the transport changes the stream. -/
theorem takeEvent_busy {e : Event} {s t : State} (hb : s.stream.busy = true) (h : takeEvent e s = .next t)
    (he : e ≠ .resetLine true) :
    t.sim = s.sim ∧ t.oam = s.oam ∧ ((∀ a, e ≠ .answer a) → t.stream = s.stream) := by
  obtain ⟨rfl, -⟩ | ⟨r, rfl, -⟩ | ⟨a, v, off, r, -, -, -, -, hw⟩ | ⟨a, rfl, rfl⟩ | ⟨b, rfl, rfl⟩ := takeEvent_cases h
  · exact ⟨rfl, rfl, fun _ => rfl⟩
  · exact ⟨rfl, rfl, fun _ => rfl⟩
  · rw [writeReg_busy_frame (s := s.logBus .done) hb hw]
    exact ⟨rfl, rfl, fun _ => rfl⟩
  · rw [takeAnswer_frame]
    exact ⟨rfl, rfl, fun hne => absurd rfl (hne a)⟩
  · cases b with
    | true => exact absurd rfl he
    | false => exact ⟨rfl, rfl, fun _ => rfl⟩

/-- Settles O9: with no event there is no step of an agent, and each event is one of those of `takeEvent_busy`. -/
theorem onlyAnswersAndResetMoveTheStream : Obligations.OnlyAnswersAndResetMoveTheStream :=
  ⟨fun _ => step_nil, fun s _ _ rest hin hb h he =>
    takeEvent_busy (s := s.setInbox rest) hb (takeEvent_of_step hin h) he⟩

/-! ### The error record -/

/-- R124: from `s` to `t` no sticky bit falls, and ERRINFO changes only with the sticky bit of its cause. -/
def OnlyRecords (s t : State) : Prop :=
  (s.terr = true → t.terr = true) ∧ (s.cerr = true → t.cerr = true)
  ∧ (t.errinfo ≠ s.errinfo → (t.errinfo.cause = .transport ∧ t.terr = true)
      ∨ ((t.errinfo.cause = .busyWrite ∨ t.errinfo.cause = .reservedOpcode) ∧ t.cerr = true))

theorem onlyRecords_of_kept {s t : State} (hterr : t.terr = s.terr) (hcerr : t.cerr = s.cerr)
    (herr : t.errinfo = s.errinfo) : OnlyRecords s t :=
  ⟨fun h => hterr.trans h, fun h => hcerr.trans h, fun hne => absurd herr hne⟩

/-- R120: BUSY_WRITE only records itself. -/
theorem onlyRecords_raiseBusyWrite (s : State) : OnlyRecords s (raiseBusyWrite s) :=
  ⟨id, fun _ => rfl, fun _ => .inr ⟨.inl rfl, rfl⟩⟩

/-- R121: so does RESERVED_OPCODE. -/
theorem onlyRecords_raiseReservedOpcode (s : State) : OnlyRecords s (raiseReservedOpcode s) :=
  ⟨id, fun _ => rfl, fun _ => .inr ⟨.inr rfl, rfl⟩⟩

/-- R49: a command records BUSY_WRITE or nothing. -/
theorem onlyRecords_exec {i : Instr} {s t : State} (h : exec i s = .next t) : OnlyRecords s t := by
  obtain ⟨-, rfl⟩ | ⟨-, hframe⟩ := exec_frame_fields h
  · exact onlyRecords_raiseBusyWrite s
  · exact onlyRecords_of_kept ((congrArg State.terr hframe).trans rfl) ((congrArg State.cerr hframe).trans rfl)
      ((congrArg State.errinfo hframe).trans rfl)

theorem onlyRecords_writeCmd {v : Word} {s t : State} (h : writeCmd v s = .next t) : OnlyRecords s t := by
  unfold writeCmd at h
  split at h
  · exact onlyRecords_exec h
  · obtain ⟨-, rfl⟩ | ⟨-, hop⟩ := unlessBusy_cases h
    · exact onlyRecords_raiseBusyWrite s
    · cases hop
      exact onlyRecords_raiseReservedOpcode s

/-- R146: of the registers only STATUS takes a write that lets a sticky bit fall, and ERRINFO stays then. -/
theorem writeReg_records {r : Reg} {v : Word} {s t : State} (h : writeReg r v s = .next t) :
    OnlyRecords s t ∨ (r = .status ∧ t.errinfo = s.errinfo) := by
  obtain ⟨-, hcmd⟩ | ⟨hr, rfl⟩ | ⟨-, rfl⟩ | ⟨-, rfl⟩ | ⟨-, -, rfl⟩ | ⟨-, -, rfl⟩ | ⟨k, -, -, rfl⟩ | ⟨k, -, -, rfl⟩ :=
    writeReg_cases h
  · exact .inl (onlyRecords_writeCmd hcmd)
  · exact .inr ⟨hr, rfl⟩
  · rw [writeCtrl_eq]
    exact .inl (onlyRecords_of_kept rfl rfl rfl)
  · exact .inl (onlyRecords_of_kept rfl rfl rfl)
  · exact .inl (onlyRecords_raiseBusyWrite s)
  all_goals exact .inl (onlyRecords_of_kept rfl rfl rfl)

/-- R122: an answer of the transport records TRANSPORT or nothing. -/
theorem onlyRecords_takeAnswer (a : Answer) (s : State) : OnlyRecords s (takeAnswer a s) := by
  obtain ⟨-, h⟩ | ⟨-, -, h⟩ | ⟨-, code, -, h⟩ := takeAnswer_cases a s
  · rw [h]
    exact onlyRecords_of_kept rfl rfl rfl
  · obtain ⟨-, hadv⟩ | ⟨-, -, hadv⟩ | ⟨-, -, hadv⟩ :=
      advance_cases (s.logPanel { byte := nextByte s, answer := .ok })
    all_goals
      rw [h, hadv]
      exact onlyRecords_of_kept rfl rfl rfl
  · rw [h, raiseTransport_eq]
    exact ⟨fun _ => rfl, id, fun _ => .inl ⟨rfl, rfl⟩⟩

/-- R124, R146: an event that is not RESET going to 1 only records errors, or it is a write to STATUS and ERRINFO
stays. -/
theorem takeEvent_records {e : Event} {s t : State} (h : takeEvent e s = .next t) (he : e ≠ .resetLine true) :
    OnlyRecords s t
    ∨ ((∃ a v, e = .write a 4 v ∧ windowOffset s.cfg.base a = some 0x004#12) ∧ t.errinfo = s.errinfo) := by
  obtain ⟨rfl, -⟩ | ⟨r, rfl, -⟩ | ⟨a, v, off, r, hev, ha, hoff, -, hw⟩ | ⟨a, -, rfl⟩ | ⟨b, rfl, rfl⟩ :=
    takeEvent_cases h
  · exact .inl (onlyRecords_of_kept rfl rfl rfl)
  · exact .inl (onlyRecords_of_kept rfl rfl rfl)
  · obtain hrec | ⟨rfl, herr⟩ := writeReg_records hw
    · exact .inl hrec
    · obtain rfl : off = 0x004#12 := BitVec.eq_of_toNat_eq hoff.symm
      exact .inr ⟨⟨a, v, hev, ha⟩, herr⟩
  · exact .inl (onlyRecords_takeAnswer a s)
  · cases b with
    | true => exact absurd rfl he
    | false => exact .inl (onlyRecords_of_kept rfl rfl rfl)

/-- Settles O54: where errors are only recorded no sticky bit falls, and a write to STATUS keeps ERRINFO. -/
theorem errorRecordIsSticky : Obligations.ErrorRecordIsSticky := by
  intro s t e rest hin h he
  obtain ⟨hterr, hcerr, herr⟩ | ⟨hstatus, hkept⟩ := takeEvent_records (takeEvent_of_step hin h) he
  · refine ⟨fun hfall => ?_, herr⟩
    obtain ⟨hs, ht⟩ | ⟨hs, ht⟩ := hfall
    · exact absurd (hterr hs) (Bool.eq_false_iff.1 ht)
    · exact absurd (hcerr hs) (Bool.eq_false_iff.1 ht)
  · exact ⟨fun _ => hstatus, fun hne => absurd hkept hne⟩

end Sys2Proof.Machine
end

section
/-! The register map and the values read (R31 to R37, R42, R43, R47). -/

namespace Sys2Proof.Machine

/-! ### The map and the window -/

/-- R43: the offsets at which a register stands. -/
theorem regAt_isSome_iff (off : BitVec 12) : (regAt off).isSome = true ↔
    off.toNat % 4 = 0 ∧ (off.toNat ≤ 0x020 ∨ (0x100 ≤ off.toNat ∧ off.toNat ≤ 0x27F)) := by
  constructor
  · intro h
    obtain ⟨r, hr⟩ := Option.isSome_iff_exists.1 h
    have hoff := offset_regAt hr
    cases r with
    | oamW0 k =>
      simp only [Reg.offset] at hoff
      omega
    | oamW1 k =>
      simp only [Reg.offset] at hoff
      omega
    | _ =>
      simp only [Reg.offset] at hoff
      omega
  · rintro ⟨halign, hlow | ⟨hlo, hhi⟩⟩
    · have hfixed : ∀ q, q < 9 → (fixedReg q).isSome = true := by decide
      rw [regAt, dif_neg (by omega), if_pos halign]
      exact hfixed _ (by omega)
    · rw [regAt, dif_pos ⟨hlo, by omega⟩]
      split
      · rfl
      · rw [if_pos (by omega)]
        rfl

/-- Settles O11: each register is found at its own offset, and the offsets found are those of a register. -/
theorem registerMapIsExact : Obligations.RegisterMapIsExact := by
  refine ⟨?fixed, fun k => ⟨regAt_offset _ _ (offset_oamW0 k), regAt_offset _ _ (offset_oamW1 k)⟩, regAt_isSome_iff⟩
  case fixed =>
    exact ⟨regAt_offset .cmd _ rfl, regAt_offset .status _ rfl, regAt_offset .errinfo _ rfl, regAt_offset .ctrl _ rfl,
      regAt_offset .gridLo _ rfl, regAt_offset .gridHi _ rfl, regAt_offset .simstat _ rfl, regAt_offset .tickcnt _ rfl,
      regAt_offset .oamCount _ rfl⟩

/-- R42: an address in the window names the offset from BASE. -/
theorem windowOffset_inside {base addr : Nat} (hlo : base ≤ addr) (hhi : addr ≤ base + 0xFFF) :
    windowOffset base (.address addr) = some (BitVec.ofNat 12 (addr - base)) :=
  if_pos ⟨hlo, hhi⟩

/-- R42: an address outside the window names none. -/
theorem windowOffset_outside {base addr : Nat} (h : addr < base ∨ base + 0xFFF < addr) :
    windowOffset base (.address addr) = none :=
  if_neg (by omega)

/-- R42: a read outside the window is not the block's. -/
theorem hostRead_outside {a : BusAddr} {s : State} (h : windowOffset s.cfg.base a = none) (size : Nat) :
    hostRead a size s = .next s := by
  rw [hostRead, h]

/-- R42: nor is a write. -/
theorem hostWrite_outside {a : BusAddr} {s : State} (h : windowOffset s.cfg.base a = none) (size : Nat) (v : Word) :
    hostWrite a size v s = .next s := by
  rw [hostWrite, h]

/-- Settles O12: inside the window the address and the offset are one access, and outside it the event is consumed. -/
theorem windowIsFourKilobytesAtBase : Obligations.WindowIsFourKilobytesAtBase := by
  intro s addr size v rest hc
  constructor
  · intro hlo hhi
    have hin := windowOffset_inside hlo hhi
    refine ⟨hin, ?_⟩
    rw [step_first hc, step_first hc]
    exact hostWrite_in_window (s := consumed s rest) hin
  · intro hout
    have hnone := windowOffset_outside hout
    rw [step_first hc, step_first hc]
    exact ⟨hostWrite_outside (s := consumed s rest) hnone size v, hostRead_outside (s := consumed s rest) hnone size⟩

/-- Settles O13: the read is performed, and CMD has no value of its own. -/
theorem readReturnsValueAndChangesNothing : Obligations.ReadReturnsValueAndChangesNothing :=
  fun _ _ _ _ _ hs ha hr => ⟨step_read_first hs ha hr, rfl⟩

/-- Settles O6: the write is performed at CMD, which runs the decoded command. -/
theorem stepRunsDecodedCommand : Obligations.StepRunsDecodedCommand := fun _ _ _ _ hs hw _ hd =>
  (step_nextWrite (r := .cmd) hs hw rfl).trans (writeCmd_of_ok hd _)

/-! ### Fields read back -/

/-- A field placed in a word is read back at its place. -/
theorem extractLsb'_field {n : Nat} (v : BitVec n) {lo : Nat} (h : lo + n ≤ 32) :
    (field v lo).extractLsb' lo n = v := by
  refine BitVec.eq_of_getLsbD_eq fun i hi => ?_
  rw [BitVec.getLsbD_extractLsb', getLsbD_field, Nat.add_sub_cancel_left]
  simp [hi, show lo + i < 32 by omega]

/-- A field placed in a word leaves 0 beside it. -/
theorem extractLsb'_field_beside {n : Nat} (v : BitVec n) {lo start len : Nat}
    (h : start + len ≤ lo ∨ lo + n ≤ start) : (field v lo).extractLsb' start len = 0#len := by
  refine BitVec.eq_of_getLsbD_eq fun i hi => ?_
  rw [BitVec.getLsbD_extractLsb', getLsbD_field, BitVec.getLsbD_zero]
  obtain hbelow | habove := h
  · simp [show ¬ lo ≤ start + i by omega]
  · simp [BitVec.getLsbD_of_ge v (start + i - lo) (by omega)]

/-- A flag placed in a word leaves 0 beside it. -/
theorem extractLsb'_flag_beside (b : Bool) {i start len : Nat} (h : start + len ≤ i ∨ i + 1 ≤ start) :
    (flag b i).extractLsb' start len = 0#len :=
  extractLsb'_field_beside _ h

/-- Settles O14: six flags, each at its own bit. -/
theorem statusLayout : Obligations.StatusLayout := by
  intro s
  refine ⟨?_, ?_, ?_, ?_, ?_, ?_, fun i hi => ?above, readReg_status_resetOf s.cfg⟩
  case above =>
    have hflag (k : Nat) (hk : k < 6) : i ≠ k := by omega
    simp [readReg, statusWord, hflag]
  all_goals
    simp only [readReg, statusWord, BitVec.getLsbD_or, getLsbD_flag]
    simp

/-- Settles O16: four fields, each at its own place, and 0 between them. -/
theorem errinfoLayout : Obligations.ErrinfoLayout := by
  intro s
  refine ⟨?cause, ?gap4, ?row, ?byte, ?gap21, ?tcode, ?reset⟩
  case cause =>
    have hcode : (readReg .errinfo s).extractLsb' 0 4 = causeCode s.errinfo.cause := by
      simp only [readReg, errinfoWord, BitVec.extractLsb'_or]
      simp (disch := omega) [extractLsb'_field, extractLsb'_field_beside]
    rw [hcode]
    cases s.errinfo.cause <;> rfl
  case gap4 | row | byte | gap21 | tcode =>
    simp only [readReg, errinfoWord, BitVec.extractLsb'_or]
    simp (disch := omega) [extractLsb'_field, extractLsb'_field_beside]
  case reset => simp [readReg, errinfoWord, State.resetOf, ErrInfo.zero, causeCode, field_zero]

/-- R35: a bit of GRID_HI. -/
theorem getLsbD_gridHiWord (m : Sim) (i : Nat) :
    (gridHiWord m).getLsbD i = (decide (i < 10) && m.grid.getLsbD (32 + i)) := by
  rw [gridHiWord, getLsbD_field, BitVec.getLsbD_extractLsb', Nat.sub_zero]
  by_cases hi : i < 10
  · simp [hi, show i < 32 by omega]
  · simp [hi]

/-- R37: a bit of the TICKCNT register. -/
theorem getLsbD_tickcntWord (s : State) (i : Nat) :
    (tickcntWord s).getLsbD i = (decide (i < s.cfg.tickBits) && s.sim.tickcnt.getLsbD i) := by
  rw [tickcntWord, BitVec.getLsbD_ofNat, Nat.testBit_mod_two_pow, BitVec.testBit_toNat]
  by_cases hi : i < 32
  · simp [hi]
  · simp [BitVec.getLsbD_of_ge s.sim.tickcnt i (by omega)]

/-- Settles O17: the views of the Simulation, field by field. -/
theorem simulationViews : Obligations.SimulationViews := by
  intro s
  have hflag (i : Nat) (hi : 15 ≤ i) : (readReg .simstat s).getLsbD i =
      ((decide (i < 32) && decide (i = 16) && s.sim.rising) || (decide (i < 32) && decide (i = 17) && s.sim.finished)
        || (decide (i < 32) && decide (i = 18) && s.btnPrev)) := by
    simp only [readReg, simstatWord, BitVec.getLsbD_or, getLsbD_field, getLsbD_flag]
    rw [BitVec.getLsbD_of_ge s.sim.seg _ (by omega), BitVec.getLsbD_of_ge s.sim.len _ (by omega),
      BitVec.getLsbD_of_ge s.sim.y _ (by omega)]
    simp
  refine ⟨fun i hi => ?gridLo, fun i hi => ?gridHi, fun i hi => ?gridHiZero, getLsbD_tickcntWord s, ?tickcntReset,
    ?seg, ?gap6, ?len, ?gap10, ?y, ?bit15, ?rising, ?finished, ?btnPrev, ?gap19, by decide⟩
  case gridLo =>
    rw [readReg, gridLoWord, BitVec.getLsbD_extractLsb', decide_eq_true hi, Nat.zero_add, Bool.true_and]
  case gridHi => rw [readReg, getLsbD_gridHiWord, decide_eq_true hi, Bool.true_and]
  case gridHiZero => rw [readReg, getLsbD_gridHiWord, decide_eq_false (by omega), Bool.false_and]
  case tickcntReset =>
    refine BitVec.eq_of_getLsbD_eq fun i _ => ?_
    rw [readReg, getLsbD_tickcntWord]
    simp [State.resetOf]
  case bit15 | rising | finished | btnPrev =>
    rw [hflag _ (by decide)]
    simp
  case seg | gap6 | len | gap10 | y | gap19 =>
    simp only [readReg, simstatWord, BitVec.extractLsb'_or]
    simp (disch := omega) [extractLsb'_field, extractLsb'_field_beside, extractLsb'_flag_beside]

end Sys2Proof.Machine
end

section
/-! The lines of a host program (R74, R75). -/

namespace Sys2Proof.Machine

/-- R74: a line that writes at a register's offset is one write, answered and performed. -/
theorem step_lineWrite {s : State} {off : BitVec 12} {v : Word} {rest : List Event} {r : Reg} (hs : Ready s)
    (hr : r.offset = off.toNat) (hin : s.inbox = lineWrite off v :: rest) :
    step s = writeReg r v (responded s rest .done) :=
  step_nextWrite hs ⟨.offset off, hin, rfl⟩ hr

/-- A concatenation as a number. -/
theorem toNat_append_eq_add {m n : Nat} (x : BitVec m) (y : BitVec n) : (x ++ y).toNat = x.toNat * 2 ^ n + y.toNat := by
  rw [BitVec.toNat_append, Nat.shiftLeft_eq, Nat.mul_comm, ← Nat.two_pow_add_eq_or_of_lt y.isLt]

/-- R39, R75: the two words SETOBJ writes are those that show the object. -/
theorem setObj_words (x y : BitVec 16) (w h asset : BitVec 8) :
    (y.setWidth 32 <<< 16) + x.setWidth 32 = packW0 { asset := asset, w := w, h := h, x := x, y := y }
    ∧ (asset.setWidth 32 <<< 16) + (h.setWidth 32 <<< 8) + w.setWidth 32
      = packW1 { asset := asset, w := w, h := h, x := x, y := y } := by
  constructor
  · rw [packW0_eq_append, ← BitVec.toNat_inj, toNat_append_eq_add]
    simp only [BitVec.toNat_add, BitVec.toNat_shiftLeft, BitVec.toNat_setWidth, Nat.shiftLeft_eq]
    omega
  · rw [packW1_eq_append, ← BitVec.toNat_inj, toNat_append_eq_add, toNat_append_eq_add, toNat_append_eq_add]
    simp only [BitVec.toNat_add, BitVec.toNat_shiftLeft, BitVec.toNat_setWidth, BitVec.toNat_ofNat, Nat.shiftLeft_eq]
    omega

/-- R39, R53: writing the two words of an object one after the other stores it, its width without the low three bits. -/
theorem unpackW1_unpackW0_pack (o p : DrawObject) :
    unpackW1 (packW1 o) (unpackW0 (packW0 o) p) = { o with w := o.w &&& 0xF8#8 } := by
  obtain ⟨hx, hy⟩ := packW0_layout o
  obtain ⟨hw, hh, ha, -⟩ := packW1_layout o
  rw [unpackW0, hx, hy, unpackW1, hw, hh, ha]

/-- R75: the two writes of SETOBJ, while no stream runs, replace one whole entry. -/
theorem run_setObj {s : State} {k : Fin 48} {o : DrawObject} {rest : List Event} (hs : Ready s)
    (hb : s.stream.busy = false)
    (hin : s.inbox = lineWrite (BitVec.ofNat 12 (0x100 + 8 * k.val)) (packW0 o)
      :: lineWrite (BitVec.ofNat 12 (0x104 + 8 * k.val)) (packW1 o) :: rest) :
    ∃ d, Host.Core.run Sys2Proof.core 2 s
        = .next { s with oam := d, inbox := rest, busLog := .done :: .done :: s.busLog }
      ∧ d.count = s.oam.count ∧ d.entries[k] = { o with w := o.w &&& 0xF8#8 }
      ∧ ∀ j : Fin 48, j ≠ k → d.entries[j] = s.oam.entries[j] := by
  have hfirst := step_lineWrite hs (offset_oamW0 k) hin
  rw [writeReg_oamW0 (s := responded s _ .done) hb] at hfirst
  have hsecond := step_lineWrite (rest := rest) (v := packW1 o)
    (s := writeOamW0 k (packW0 o) (responded s (_ :: rest) .done)) hs (offset_oamW1 k) rfl
  rw [writeReg_oamW1 (s := responded (writeOamW0 k (packW0 o) (responded s _ .done)) rest .done) hb] at hsecond
  refine ⟨_, (run_succ hfirst 1).trans (run_succ hsecond 0), rfl, ?_, fun j hj => ?_⟩
  · refine (setEntry_entry_same _ k _).trans ?_
    have hold : (setEntry s.oam k (unpackW0 (packW0 o) s.oam.entries[k])).entries[k]
        = unpackW0 (packW0 o) s.oam.entries[k] := setEntry_entry_same _ k _
    exact (congrArg (unpackW1 (packW1 o)) hold).trans (unpackW1_unpackW0_pack o _)
  · exact (setEntry_entry_other _ _ hj).trans (setEntry_entry_other _ _ hj)

/-- Settles O24: each line is its accesses, and each access the write or the read of its register. -/
theorem pseudoInstructionsAct : Obligations.PseudoInstructionsAct := by
  intro s rest hs
  refine ⟨fun i hin => ?command, fun hin => ?clrErr, fun n hb hin => ?setCount, fun k x y w h a hb hin => ?setObj,
    fun b hline hin => ?disp, fun hin => ?waitIdle⟩
  case command => exact (step_lineWrite (r := .cmd) hs rfl hin).trans (writeCmd_of_ok (decode_encode i) _)
  case clrErr =>
    refine (step_lineWrite (r := .status) (rest := rest) hs rfl hin).trans (congrArg Host.Outcome.next ?_)
    have h1 : (0x00000006#32).getLsbD 1 = true := by decide
    have h2 : (0x00000006#32).getLsbD 2 = true := by decide
    rw [clearSticky_eq, h1, h2, Bool.not_true, Bool.and_false, Bool.and_false]
  case setCount =>
    refine (step_lineWrite (r := .oamCount) (rest := rest) hs rfl hin).trans ?_
    rw [writeReg_oamCount (s := responded s rest .done) hb, writeOamCount, clampCount_eq]
    rfl
  case setObj =>
    obtain ⟨hw0, hw1⟩ := setObj_words x y w h a
    refine run_setObj (o := { asset := a, w := w, h := h, x := x, y := y }) hs hb ?_
    rw [← hw0, ← hw1]
    exact hin
  case disp =>
    refine (step_lineWrite (r := .ctrl) (rest := rest) hs rfl hin).trans (congrArg Host.Outcome.next ?_)
    have hbit : (if b then 1#32 else 0#32).getLsbD 0 = b := by cases b <;> rfl
    rw [writeCtrl_of_line (s := responded s rest .done) hline, hbit]
  case waitIdle =>
    have hread := step_read_first (s := s) (a := .offset 0x004#12) (rest := rest) (r := .status) hs rfl rfl
    refine ⟨readReg .status s, ?_, (statusLayout s).1⟩
    rw [← hread]
    exact congrArg (fun es => step (s.setInbox es)) hin

end Sys2Proof.Machine
end

section
/-! The compositor pixel by pixel (R100 to R103, R111 to R113): a contribution against the pixels of the object, and the
composed bytes of an aligned object and of a built frame. -/

namespace Sys2Proof.Machine

/-! ### The two fetches -/

/-- R58, R101: the pixel of the asset at column `e` of row `dy` of an object. -/
def assetPixel (assets : List (List Byte)) (o : DrawObject) (e dy : Nat) : Bool :=
  (assetRead assets o.asset.toNat (e / 8 + dy * (o.w.toNat / 8))).getLsbD (7 - e % 8)

/-- R101: a pixel of the output is lit when the object covers it and the pixel of the asset there is set. -/
theorem pixelLit_eq (assets : List (List Byte)) (o : DrawObject) (p r : Nat) :
    pixelLit assets o p r = (covers o p r && assetPixel assets o (p - o.x.toNat) (r - o.y.toNat)) := rfl

/-- R100: the first fetch draws the pixels that share the asset byte of the output byte's first pixel. -/
theorem firstFetch_getLsbD (assets : List (List Byte)) (o : DrawObject) (dx : Int) (dy : Nat) {j : Nat} (hj : j < 8) :
    (firstFetch assets o dx dy).getLsbD (7 - j) =
      (decide (0 ≤ dx ∧ dx < o.w.toNat ∧ dx % 8 + j < 8) && assetPixel assets o (dx + j).toNat dy) := by
  unfold firstFetch
  by_cases hin : 0 ≤ dx ∧ dx < o.w.toNat
  · rw [if_pos hin, BitVec.getLsbD_shiftLeft]
    by_cases hsame : dx % 8 + j < 8
    · have hbyte : (dx + j).toNat / 8 = dx.toNat / 8 := by omega
      have hbit : 7 - (dx + j).toNat % 8 = 7 - j - dx.toNat % 8 := by omega
      rw [assetPixel, hbyte, hbit]
      simp [hin, hsame, show 7 - j < 8 by omega, show ¬ 7 - j < dx.toNat % 8 by omega]
    · simp [hsame, show 7 - j < dx.toNat % 8 by omega]
  · rw [if_neg hin, BitVec.getLsbD_zero, decide_eq_false (by tauto), Bool.false_and]

/-- R100: the second fetch draws the pixels that share the asset byte of the output byte's last pixel. -/
theorem secondFetch_getLsbD (assets : List (List Byte)) (o : DrawObject) (dx : Int) (dy : Nat) {j : Nat} (hj : j < 8) :
    (secondFetch assets o dx dy).getLsbD (7 - j) =
      (decide (0 ≤ dx + 7 ∧ dx + 7 < o.w.toNat ∧ 7 ≤ (dx + 7) % 8 + j) && assetPixel assets o (dx + j).toNat dy) := by
  unfold secondFetch
  by_cases hin : 0 ≤ dx + 7 ∧ dx + 7 < o.w.toNat
  · rw [if_pos hin, BitVec.getLsbD_ushiftRight]
    by_cases hsame : 7 ≤ (dx + 7) % 8 + j
    · have hbyte : (dx + j).toNat / 8 = (dx + 7).toNat / 8 := by omega
      have hbit : 7 - (dx + j).toNat % 8 = 7 - (dx + 7).toNat % 8 + (7 - j) := by omega
      rw [assetPixel, hbyte, hbit]
      simp [hin, hsame]
    · rw [BitVec.getLsbD_of_ge _ _ (by omega), decide_eq_false (by tauto), Bool.false_and]
  · rw [if_neg hin, BitVec.getLsbD_zero, decide_eq_false (by tauto), Bool.false_and]

/-- R101: with a width that is a multiple of 8, each pixel of the output byte that lies in the object's columns shares
its asset byte with the first or with the last pixel of the output byte, and that pixel lies in the columns too. -/
theorem fetch_columns {dx : Int} {w j : Nat} (hw : w % 8 = 0) (hj : j < 8) :
    (0 ≤ dx ∧ dx < w ∧ dx % 8 + j < 8) ∨ (0 ≤ dx + 7 ∧ dx + 7 < w ∧ 7 ≤ (dx + 7) % 8 + j)
      ↔ 0 ≤ dx + j ∧ dx + j < w := by
  omega

/-- R100: an object contributes nothing outside its rows. -/
theorem contrib_outside_rows (assets : List (List Byte)) {o : DrawObject} {r : Nat} (bc : Nat)
    (h : (r : Int) - o.y.toNat < 0 ∨ (o.h.toNat : Int) ≤ (r : Int) - o.y.toNat) : contrib assets o r bc = 0#8 :=
  if_pos h

/-- R100: inside its rows it contributes the two fetches. -/
theorem contrib_inside_rows (assets : List (List Byte)) {o : DrawObject} {r : Nat} (bc : Nat)
    (h : ¬ ((r : Int) - o.y.toNat < 0 ∨ (o.h.toNat : Int) ≤ (r : Int) - o.y.toNat)) : contrib assets o r bc =
      firstFetch assets o ((bc : Int) * 8 - o.x.toNat) ((r : Int) - o.y.toNat).toNat
        ||| secondFetch assets o ((bc : Int) * 8 - o.x.toNat) ((r : Int) - o.y.toNat).toNat :=
  if_neg h

/-- R100, R101: bit `7 - j` of a contribution is pixel `j` of the byte. -/
theorem contrib_getLsbD (assets : List (List Byte)) (o : DrawObject) (r bc : Nat) {j : Nat} (hw : o.w.toNat % 8 = 0)
    (hj : j < 8) : (contrib assets o r bc).getLsbD (7 - j) = pixelLit assets o (bc * 8 + j) r := by
  have hcov := covers_iff o (bc * 8 + j) r
  rw [pixelLit_eq]
  by_cases hrow : (r : Int) - o.y.toNat < 0 ∨ (o.h.toNat : Int) ≤ (r : Int) - o.y.toNat
  · have hout : covers o (bc * 8 + j) r = false := by
      rw [← Bool.not_eq_true, hcov]
      omega
    rw [contrib_outside_rows assets bc hrow, hout, BitVec.getLsbD_zero, Bool.false_and]
  · have hpixel : ((bc : Int) * 8 - o.x.toNat + j).toNat = bc * 8 + j - o.x.toNat := by omega
    have hdy : ((r : Int) - o.y.toNat).toNat = r - o.y.toNat := by omega
    have hinside : covers o (bc * 8 + j) r = decide (0 ≤ (bc : Int) * 8 - o.x.toNat + j
        ∧ (bc : Int) * 8 - o.x.toNat + j < o.w.toNat) := by
      rw [Bool.eq_iff_iff, hcov, decide_eq_true_eq]
      omega
    rw [contrib_inside_rows assets bc hrow, BitVec.getLsbD_or, firstFetch_getLsbD _ _ _ _ hj,
      secondFetch_getLsbD _ _ _ _ hj, ← Bool.and_or_distrib_right, ← Bool.decide_or,
      decide_eq_decide.2 (fetch_columns hw hj), hinside, hpixel, hdy]

/-- Settles O40: the two fetches of R100 against the pixels of R101. -/
theorem contribIsPixelExact : Obligations.ContribIsPixelExact := fun assets o r bc _ hw hj =>
  contrib_getLsbD assets o r bc hw hj

/-- R101: a byte is equal to a contribution when its bits are the pixels. -/
theorem contrib_eq_of_pixels {assets : List (List Byte)} {o : DrawObject} {r bc : Nat} {b : Byte}
    (hw : o.w.toNat % 8 = 0) (h : ∀ j, j < 8 → pixelLit assets o (bc * 8 + j) r = b.getLsbD (7 - j)) :
    contrib assets o r bc = b := by
  refine BitVec.eq_of_getLsbD_eq fun i hi => ?_
  have hback : 7 - (7 - i) = i := by omega
  have hbit := contrib_getLsbD assets o r bc hw (j := 7 - i) (by omega)
  rw [h (7 - i) (by omega), hback] at hbit
  exact hbit

/-! ### Composed bytes -/

/-- R102, R112: a composed byte depends on which objects there are. -/
theorem composeByte_congr {objs objs' : List DrawObject} (h : ∀ o, o ∈ objs ↔ o ∈ objs')
    (assets : List (List Byte)) (r bc : Nat) : composeByte assets objs r bc = composeByte assets objs' r bc := by
  refine congrArg (~~~ ·) (BitVec.eq_of_getLsbD_eq fun i _ => ?_)
  rw [Bool.eq_iff_iff, accumulate_getLsbD, accumulate_getLsbD]
  simp only [h]

/-- R102, R103: one object's byte is its contribution, inverted. -/
theorem composeByte_singleton (assets : List (List Byte)) (o : DrawObject) (r bc : Nat) :
    composeByte assets [o] r bc = ~~~ contrib assets o r bc := by
  rw [composeByte, accumulate, List.foldl_cons, List.foldl_nil, BitVec.zero_or]

/-- Settles O42: the accumulator is the OR of the contributions, from 0 on. -/
theorem composeIgnoresOrderAndRepeats : Obligations.ComposeIgnoresOrderAndRepeats := by
  refine fun assets r bc => ⟨fun objs objs' h => composeByte_congr h assets r bc, fun o1 o2 => ?_⟩
  rw [composeByte, accumulate, List.foldl_cons, List.foldl_cons, List.foldl_nil, BitVec.zero_or]

/-! ### Aligned objects -/

/-- R111: an aligned object covers all pixels of an output byte or none of them. -/
theorem covers_aligned {o : DrawObject} (hx : o.x.toNat % 8 = 0) (hw : o.w.toNat % 8 = 0) (bc r : Nat) {j : Nat}
    (hj : j < 8) : covers o (bc * 8 + j) r = covers o (bc * 8) r := by
  rw [Bool.eq_iff_iff, covers_iff, covers_iff]
  omega

/-- R111: an aligned object contributes the asset byte at its own byte column and row where it covers the
output byte. -/
theorem contrib_aligned (assets : List (List Byte)) {o : DrawObject} (hx : o.x.toNat % 8 = 0) (hw : o.w.toNat % 8 = 0)
    (r bc : Nat) : contrib assets o r bc = if covers o (bc * 8) r then
      assetRead assets o.asset.toNat ((bc - o.x.toNat / 8) + (r - o.y.toNat) * (o.w.toNat / 8)) else 0#8 := by
  refine contrib_eq_of_pixels hw fun j hj => ?_
  rw [pixelLit_eq, covers_aligned hx hw bc r hj]
  cases hc : covers o (bc * 8) r with
  | false =>
    rw [if_neg Bool.false_ne_true, BitVec.getLsbD_zero]
    rfl
  | true =>
    obtain ⟨⟨hleft, -⟩, -⟩ := (covers_iff o (bc * 8) r).1 hc
    have hbyte : (bc * 8 + j - o.x.toNat) / 8 = bc - o.x.toNat / 8 := by omega
    have hbit : (bc * 8 + j - o.x.toNat) % 8 = j := by omega
    rw [if_pos rfl, assetPixel, hbyte, hbit, Bool.true_and]

/-- Settles O43: the contribution of the one object is its asset byte inside its rectangle and 0 elsewhere. -/
theorem alignedObjectReproducesAsset : Obligations.AlignedObjectReproducesAsset := by
  intro assets o bytes hasset hx hw _ _ _ r bc _ _
  have hinside : covers o (bc * 8) r = true ↔
      o.y.toNat ≤ r ∧ r < o.y.toNat + o.h.toNat ∧ o.x.toNat / 8 ≤ bc ∧ bc < (o.x.toNat + o.w.toNat) / 8 := by
    rw [covers_iff]
    omega
  rw [composeByte_singleton, contrib_aligned assets hx hw, assetRead_of_some hasset]
  simp only [hinside]
  split <;> rfl

/-! ### Frames that BUILD made -/

/-- R113: on this hardware's asset ROM an object of BUILD contributes 0xFF where it covers the output byte. -/
theorem contrib_builtObject {m : Sim} {o : DrawObject} (ho : o ∈ builtObjects m) (r bc : Nat) :
    contrib [List.replicate 72 0xFF#8] o r bc = if covers o (bc * 8) r then 0xFF#8 else 0#8 := by
  obtain ⟨hasset, hw, hh, hx⟩ := builtObjects_shape ho
  have hw24 : o.w.toNat = 24 := congrArg BitVec.toNat hw
  have hh24 : o.h.toNat = 24 := congrArg BitVec.toNat hh
  rw [contrib_aligned _ hx (by omega)]
  cases hc : covers o (bc * 8) r with
  | false => rfl
  | true =>
    obtain ⟨⟨hleft, hright⟩, htop, hbottom⟩ := (covers_iff o (bc * 8) r).1 hc
    have hindex : bc - o.x.toNat / 8 + (r - o.y.toNat) * (o.w.toNat / 8) < (List.replicate 72 0xFF#8).length := by
      rw [List.length_replicate, hw24]
      omega
    rw [if_pos rfl, if_pos rfl, hasset, assetRead_of_some (bytes := List.replicate 72 0xFF#8) rfl,
      List.getD_eq_getElem _ _ hindex, List.getElem_replicate]

/-- R103: where some object contributes 0xFF, the byte is 0x00. -/
theorem composeByte_eq_zero {assets : List (List Byte)} {objs : List DrawObject} {r bc : Nat}
    (h : ∃ o ∈ objs, contrib assets o r bc = 0xFF#8) : composeByte assets objs r bc = 0x00#8 := by
  refine BitVec.eq_of_getLsbD_eq fun i hi => ?_
  obtain ⟨o, ho, hff⟩ := h
  rw [BitVec.getLsbD_zero, composeByte_getLsbD_eq_false assets objs r bc hi]
  refine ⟨o, ho, ?_⟩
  have hones : 0xFF#8 = BitVec.allOnes 8 := rfl
  rw [hff, hones, BitVec.getLsbD_allOnes, decide_eq_true hi]

/-- Settles O44: the objects of the OAM are those that BUILD emits, each all lit where it covers. -/
theorem builderFrameBytes : Obligations.BuilderFrameBytes := by
  intro s t hb hassets ht r bc _ _
  rw [exec_build, unlessBusy_idle hb] at ht
  obtain ⟨-, rfl⟩ := buildOp_next ht
  have hobjs : objects (s.setOam (loadObjects (builtObjects s.sim) s.oam)).oam = builtObjects s.sim :=
    objects_loadObjects _ _ (builtObjects_length_le s.sim)
  rw [hobjs, hassets]
  split
  · next hcov =>
    obtain ⟨o, ho, hc⟩ := hcov
    exact composeByte_eq_zero ⟨o, ho, by rw [contrib_builtObject ho, if_pos hc]⟩
  · next hcov =>
    refine composeByte_eq_ff fun o ho => ?_
    rw [contrib_builtObject ho, if_neg fun hc => hcov ⟨o, ho, hc⟩]

end Sys2Proof.Machine
end
